-- ==== Sys2Proof/Word.lean ====
section
/-! DEFINITION. The words of the KJ512: bytes, 64-byte lines, line addresses and the identifiers of
sources, requests, streams and epochs (00_scope Table 3 and Table 5). -/

namespace Sys2Proof

/-- One byte. -/
abbrev Byte := BitVec 8

/-- 64 bytes: the contents of a line, a before-image or an outcome slot, byte 0 first. -/
abbrev Block := Vector Byte 64

/-- A line address: a 40-bit byte address divided by 64 (00_scope Table 3). -/
abbrev LineAddr := BitVec 34

/-- The byte mask of a host write: one enable for each byte of the line (R56). -/
abbrev ByteMask := BitVec 64

/-- A stream, 0 to 7 (R25). -/
abbrev StreamId := Fin 8

/-- A source, 0 to 31 (R56). -/
abbrev SourceId := Fin 32

/-- A request number, 0 to 255 (R56). -/
abbrev ReqNum := BitVec 8

/-- An epoch number, a 16-bit count (R27). -/
abbrev EpochNo := BitVec 16

/-- A (source, request number) pair names one outstanding request (00_scope Table 3, R60). -/
structure Pair where
  source : SourceId
  number : ReqNum
  deriving DecidableEq, Repr

end Sys2Proof
end

