-- ==== Sys2Proof/Syntax.lean ====
section
/-! DEFINITION. The commands the KJ512 takes: one constructor of `Instr` for each row of
spec/opcode_table.json, with the operands the rule of the row gives it. -/

namespace Sys2Proof

/-- The mark of a host write (R56, Table 11-1). -/
inductive Mark where
  | none
  | commit
  | abort
  | reserved
  deriving DecidableEq, Repr

/-- A host write request (R56, Table 3-1). -/
structure WriteReq where
  pair : Pair
  line : LineAddr
  mask : ByteMask
  data : Block
  mark : Mark
  deriving DecidableEq, Repr

/-- A host read request (R57). -/
structure ReadReq where
  pair : Pair
  line : LineAddr
  deriving DecidableEq, Repr

/-- The two response channels of the host bus (section 3.1). -/
inductive Channel where
  | write
  | read
  deriving DecidableEq, Repr

/-- The status of a memory response (Table 11-1). -/
inductive MemStatus where
  | ok
  | error
  deriving DecidableEq, Repr

/-- The commands of the block, one constructor for each row of spec/opcode_table.json, in the
table's order. Payload fields of management commands are raw bytes as R178 lays them out, so that
the part itself judges their ranges (R167 steps 7 to 9). -/
inductive Instr where
  /-- HOST_WRITE_REQUEST (R62): the host offers a write, marker or null write. -/
  | hostWriteRequest (w : WriteReq)
  /-- HOST_READ_REQUEST (R66): the host offers a read. -/
  | hostReadRequest (r : ReadReq)
  /-- HOST_RESPONSE_TAKEN (R58): the host takes the oldest response of a channel. -/
  | hostResponseTaken (ch : Channel)
  /-- ISSUE_REQUEST (R112). -/
  | issueRequest
  /-- MEMORY_RESPONSE (R115): tag, status and, for a read, 64 data bytes. -/
  | memoryResponse (tag : BitVec 6) (status : MemStatus) (data : Block)
  /-- RESPONSE_LIMIT_EXPIRY (R119) of the request holding a tag. -/
  | responseLimitExpiry (tag : BitVec 6)
  /-- HOLD_LIMIT_EXPIRY (R81) of the held item answered under a pair. -/
  | holdLimitExpiry (p : Pair)
  /-- AGE_EXPIRY (R42) of a stream. -/
  | ageExpiry (n : StreamId)
  /-- ROLLBACK_N_ASSERTION (R41). -/
  | rollbackNAssertion
  /-- SURVEY_END (R129) with the converter's energy figure, 0 to 65535. -/
  | surveyEnd (raw : BitVec 16)
  /-- ZERO_SURVEY_END (R132) with the signed zero reading. -/
  | zeroSurveyEnd (reading : BitVec 16)
  /-- POR (R141) with the levels of the MADDR straps (R164). -/
  | por (straps : BitVec 2)
  /-- SUPPLY_LOSS (R141). -/
  | supplyLoss
  /-- SUPPLY_TRIP (R140, R144). -/
  | supplyTrip
  /-- PFAIL_N_ASSERTION (R144, R181). -/
  | pfailNAssertion
  /-- RESET_N_ASSERTION (R144, R181). -/
  | resetNAssertion
  /-- SUPPLY_GOOD (R152). -/
  | supplyGood
  /-- PFAIL_N_RISE (R152). -/
  | pfailNRise
  /-- RESET_N_RISE (R152). -/
  | resetNRise
  /-- SETTLE_TIMER_EXPIRY (R152). -/
  | settleTimerExpiry
  /-- SLOT_PROGRAM_DONE (R156) with the slot as read back. -/
  | slotProgramDone (readBack : Block)
  /-- SCAN_DONE (R158). -/
  | scanDone
  /-- SECTOR_ERASE_DONE (R157) with the sector's 16 slots as read back. -/
  | sectorEraseDone (readBack : Vector Block 16)
  /-- READ_FRAME (R165, R168): the address byte, the controller's answer at the ninth clock of each
  byte it clocks out (true where it acknowledges), and whether a stop has ended the frame. -/
  | readFrame (address : Byte) (acks : List Bool) (ended : Bool)
  /-- LINK_STUCK (R166). -/
  | linkStuck
  /-- REQUEST_FRAME (R167): the address byte, the bytes after it, and whether a stop has ended the
  frame. -/
  | requestFrame (address : Byte) (bytes : List Byte) (ended : Bool)
  /-- STATUS(part) (R170). -/
  | status (part : Byte)
  /-- STREAM_INFO(n) (R55). -/
  | streamInfo (n : Byte)
  /-- STREAM_SET(n, policy, hold limit, quota, age limit) (R26). -/
  | streamSet (n : Byte) (policy : Byte) (holdLimit quota ageLimit : BitVec 16)
  /-- REGION_INFO(w) (R68). -/
  | regionInfo (w : Byte)
  /-- REGION_SET(w, enable, kind, base page, page count) (R64). -/
  | regionSet (w : Byte) (enable : Byte) (kind : Byte) (base count : BitVec 32)
  /-- SOURCE_MAP_INFO (R68). -/
  | sourceMapInfo
  /-- SOURCE_MAP_SET(source, stream or NONE) (R65). -/
  | sourceMapSet (source : Byte) (stream : Byte)
  /-- ABORT(n) (R40). -/
  | abort (n : Byte)
  /-- RESUME(n, RETRY) (R51). -/
  | resumeRetry (n : Byte)
  /-- RESUME(n, DISCARD) (R52). -/
  | resumeDiscard (n : Byte)
  /-- FAILED_LIST(n, start) (R171). -/
  | failedList (n : Byte) (start : BitVec 16)
  /-- ENTRY_IMAGE(entry, half) (R171). -/
  | entryImage (entry : BitVec 16) (half : Byte)
  /-- METER_SET(period, reserve, cost, cap) (R131). -/
  | meterSet (period reserve cost cap : BitVec 16)
  /-- CALIBRATE (R134). -/
  | calibrate
  /-- TIMEOUT_SET(limit) (R118). -/
  | timeoutSet (limit : Byte)
  /-- OUTCOME(k) (R162). -/
  | outcome (k : Byte)
  /-- EVENT_NEXT (R175). -/
  | eventNext
  /-- FLAGS_CLEAR(mask) (R173). -/
  | flagsClear (mask : BitVec 16)
  /-- ALERT_MASK_SET(mask) (R174). -/
  | alertMaskSet (mask : BitVec 16)
  /-- RESTART (R144). -/
  | restart
  deriving DecidableEq, Repr

end Sys2Proof
end

