-- ==== Sys2Proof/Decode.lean ====
section
/-! DEFINITION. Reading a command from the bits of the opcode table. No row of
spec/opcode_table.json carries bits (the part takes events and frames, not instruction words), so
no word spells a command. Management frames are read by Machine/Operands.lean (R167). -/

namespace Sys2Proof

/-- The command that a word of the table spells: none, since the table gives no row any bits. -/
def decodeTableWord (_nbits _w : Nat) : Option Instr := none

end Sys2Proof
end

