-- ==== Sys2Proof/Machine/State.lean ====
section
/-! DEFINITION. The state of the KJ512, block by block (00_scope Table 1), as plain data, with the
state right after POR (`State.reset`) and the reasons a step can stop. Reset values are those of
"After POR" in the tables of the chapters. -/

namespace Sys2Proof.Machine

/-! ### Pins (R140, R181) and the host bus (R59) -/

/-- The supply against the good level as last reported or read (LOG 30), and the levels of PFAIL_N and
RESET_N (R140, R181). -/
structure Pins where
  supplyGood : Bool
  pfailHigh : Bool
  resetHigh : Bool
  deriving DecidableEq, Repr

/-- Requests the host has offered and the port has not accepted: they wait on the bus, oldest
first, one list for each request channel (R59, R67). -/
structure HostBus where
  writes : List WriteReq
  reads : List ReadReq
  deriving DecidableEq, Repr

/-! ### Host port (chapter 3) -/

/-- Write response statuses (Table 3-2), in the order of their codes (Table 11-1). -/
inductive WriteStatus where
  | ok
  | refused
  | memory
  | lost
  deriving DecidableEq, Repr

/-- Read response statuses (R57), in the order of their codes (Table 11-1). -/
inductive ReadStatus where
  | ok
  | memory
  deriving DecidableEq, Repr

/-- A write slot (R59): the request it holds, whether the request repeated an outstanding pair
(R60), and whether it has been answered. -/
structure WriteSlot where
  req : WriteReq
  duplicate : Bool
  answered : Bool
  deriving DecidableEq, Repr

/-- A read slot (R59). -/
structure ReadSlot where
  req : ReadReq
  duplicate : Bool
  answered : Bool
  deriving DecidableEq, Repr

/-- A response on the write response channel (R58). -/
structure WriteResponse where
  pair : Pair
  status : WriteStatus
  duplicate : Bool
  deriving DecidableEq, Repr

/-- A response on the read response channel (R57). -/
structure ReadResponse where
  pair : Pair
  status : ReadStatus
  data : Block
  duplicate : Bool
  deriving DecidableEq, Repr

/-- The host port: held slots in order of acceptance, and the response channels in the order in
which responses became ready (R58, R59). -/
structure HostPort where
  writeSlots : List WriteSlot
  readSlots : List ReadSlot
  writeResponses : List WriteResponse
  readResponses : List ReadResponse
  deriving DecidableEq, Repr

/-! ### Request classifier (R64, R65) -/

/-- Window kinds (Table 3-4), in the order of their codes (Table 11-4). -/
inductive WindowKind where
  | journal
  | block
  deriving DecidableEq, Repr

/-- A region window (Table 3-4). -/
structure Window where
  enabled : Bool
  kind : WindowKind
  base : Nat
  count : Nat
  deriving DecidableEq, Repr

/-- The region table and the source map; `none` stands for NONE. -/
structure Classifier where
  windows : Vector Window 8
  sourceMap : Vector (Option StreamId) 32
  deriving DecidableEq, Repr

/-! ### Journal (chapter 1) -/

/-- The states of an entry that holds a before-image (Table 1-2). -/
inductive ImageState where
  | live
  | restoring
  | linger
  | failed
  deriving DecidableEq, Repr

/-- What an entry holds (R1, R2): a trigger in CAPTURING, a before-image in every other working
state. -/
inductive EntryBody where
  | capturing (trigger : Pair)
  | holding (st : ImageState) (image : Block)
  deriving DecidableEq, Repr

/-- A working entry (Table 1-1). -/
structure Entry where
  index : Nat
  line : LineAddr
  stream : StreamId
  epoch : EpochNo
  sequence : BitVec 32
  body : EntryBody
  inFlight : Nat
  strays : Nat
  failures : Nat
  deriving DecidableEq, Repr

/-- The journal: its working entries in rising index order (an index that is not listed is FREE),
and the sequence counter (R1, R3). -/
structure Journal where
  entries : List Entry
  counter : BitVec 32
  deriving DecidableEq, Repr

/-! ### Epoch controller (chapter 2) -/

/-- Stream states, in the order of their codes (Table 11-4). -/
inductive StreamState where
  | closed
  | open
  | committing
  | rolling
  | abandoned
  | halted
  deriving DecidableEq, Repr

/-- The marks of a marker. -/
inductive MarkerKind where
  | commit
  | abort
  deriving DecidableEq, Repr

/-- A kept marker: its mark, source and request number (R25). -/
structure KeptMarker where
  mark : MarkerKind
  pair : Pair
  deriving DecidableEq, Repr

/-- The state from which a stream entered ROLLING (R25). -/
inductive Origin where
  | open
  | committing
  deriving DecidableEq, Repr

/-- Causes of a rollback (R25, Table 5-1). -/
inductive RollCause where
  | mark
  | doomed
  | mgmt
  | line
  | aged
  | drain
  deriving DecidableEq, Repr

/-- Hold policies, in the order of their codes. -/
inductive HoldPolicy where
  | wait
  | refuse
  deriving DecidableEq, Repr

/-- The age of a stream: running since a time, or stopped at a value in milliseconds (R29). -/
inductive Age where
  | stopped (ms : Nat)
  | running (since : Nat)
  deriving DecidableEq, Repr

/-- A stream record (Table 2-1). The fields entries, failed and held are counts of the journal and
of the hold queue (`State.streamEntries`, `State.streamFailed`, `State.heldCount`); loss cause NONE
is `none`. -/
structure Stream where
  state : StreamState
  epoch : EpochNo
  opening : BitVec 32
  inFlight : Nat
  doomed : Bool
  age : Age
  kept : Option KeptMarker
  origin : Option Origin
  lossCause : Option RollCause
  lossRestored : Nat
  lossFailed : Nat
  noticeOwed : Bool
  policy : HoldPolicy
  holdLimit : Nat
  quota : Nat
  ageLimit : Nat
  deriving DecidableEq, Repr

/-- The epoch controller: the eight stream records and the opening counter (R25, R27). -/
structure EpochCtl where
  streams : Vector Stream 8
  opening : BitVec 32
  deriving DecidableEq, Repr

/-! ### Write control (chapter 4) -/

/-- Hold reasons, in the order of their codes (Table 11-4). -/
inductive HoldReason where
  | captureWait
  | lineOrder
  | conflict
  | admission
  | epochWait
  deriving DecidableEq, Repr

/-- The kind of a held item: a write with its line, or a marker (Table 4-2). -/
inductive HeldKind where
  | write (line : LineAddr)
  | marker (mark : MarkerKind)
  deriving DecidableEq, Repr

/-- A held item (Table 4-2). `epoch` is present when the item belongs to an epoch; `holdStart` is
the time since INIT at which it was first placed in the queue (R80). -/
structure HeldItem where
  pair : Pair
  kind : HeldKind
  stream : StreamId
  epoch : Option EpochNo
  reason : HoldReason
  holdStart : Nat
  deriving DecidableEq, Repr

/-- Write control: the hold queue, oldest first (R78), and whether a re-examination pass is owed at
the end of the running act (R84; the model's own field). -/
structure WriteCtl where
  hold : List HeldItem
  passDue : Bool
  deriving DecidableEq, Repr

/-! ### Rollback engine (chapter 5) -/

/-- Job kinds (Table 5-1). -/
inductive JobKind where
  | epoch
  | retry
  deriving DecidableEq, Repr

/-- Job phases (Table 5-1). -/
inductive JobPhase where
  | queued
  | settle
  | restore
  deriving DecidableEq, Repr

/-- A job (Table 5-1). `retrySet` lists the FAILED entries a RETRY job has still to select; `prior`
says that the job stood in the queue before the drain's handing-over (R148). -/
structure Job where
  kind : JobKind
  stream : StreamId
  epoch : EpochNo
  cause : RollCause
  phase : JobPhase
  retrySet : List Nat
  restored : Nat
  failed : Nat
  prior : Bool
  deriving DecidableEq, Repr

/-- A restore position held by a restore write (R97): its entry, and whether it is a linger
re-restore (R99). -/
structure Position where
  entry : Nat
  linger : Bool
  deriving DecidableEq, Repr

/-- The rollback engine (section 5.1): restore queue, restore positions held, linger-pending list and
drain tallies. -/
structure Engine where
  queue : List Job
  positions : List Position
  lingerPending : List Nat
  restoredTally : Nat
  failedTally : Nat
  lingerTally : Nat
  deriving DecidableEq, Repr

/-! ### Memory port (chapter 6) -/

/-- A request handed to the memory port, with the identity its block needs for the answer (R114). -/
inductive Request where
  | hostRead (pair : Pair) (line : LineAddr)
  | passWrite (pair : Pair) (line : LineAddr)
  | capture (entry : Nat) (line : LineAddr)
  | forward (pair : Pair) (line : LineAddr) (entry : Nat) (stream : StreamId) (epoch : EpochNo)
  | restore (entry : Nat) (line : LineAddr) (linger : Bool)
  deriving DecidableEq, Repr

/-- A tie from a poisoned tag to the entry and line of a timed-out forwarded write (R119, R121). -/
structure Tie where
  entry : Nat
  line : LineAddr
  deriving DecidableEq, Repr

/-- The state of a tag (R111). A tag in use holds its request, the time of issue and the response
limit in force at issue (R118). -/
inductive Tag where
  | free
  | inUse (req : Request) (issuedAt limit : Nat)
  | poisoned (tie : Option Tie)
  deriving DecidableEq, Repr

/-- A request on the memory request channel (R114, Table 11-1): a read carries no mask and data. -/
structure BusRequest where
  tag : BitVec 6
  line : LineAddr
  write : Option (ByteMask × Block)
  deriving DecidableEq, Repr

/-- The memory port: 48 tags, the issue queue (oldest first), the response limit, and the requests
placed on the request channel in issue order. -/
structure MemPort where
  tags : Vector Tag 48
  queue : List Request
  limit : Nat
  issued : List BusRequest
  deriving DecidableEq, Repr

/-! ### Hold-up meter (chapter 7) -/

/-- A survey in progress with the values latched at its start (R127). -/
structure Survey where
  start : Nat
  period : Nat
  reserve : Nat
  cost : Nat
  deriving DecidableEq, Repr

/-- A calibration in progress (R132): the time its present zero survey began, the latched period,
the first zero reading once made, and whether a CALIBRATE command asked for it. -/
structure Calibration where
  start : Nat
  period : Nat
  first : Option Int
  requested : Bool
  deriving DecidableEq, Repr

/-- The meter state (R127). -/
inductive MeterMode where
  | stopped
  | calibrating (c : Calibration)
  | running (sv : Survey)
  deriving DecidableEq, Repr

/-- The hold-up meter: state, last readings, credit figure, fault and shortfall conditions and the
four configuration values (R127 to R136). -/
structure Meter where
  mode : MeterMode
  raw : Nat
  offset : Int
  store : Nat
  credit : Nat
  stale : Bool
  faultRaw : Bool
  faultOffset : Bool
  shortfall : Bool
  period : Nat
  reserve : Nat
  cost : Nat
  cap : Nat
  deriving DecidableEq, Repr

/-! ### Power control (chapter 8) -/

/-- Device states, in the order of their codes (Table 11-4). -/
inductive DeviceState where
  | off
  | init
  | ready
  | drain
  | spent
  deriving DecidableEq, Repr

/-- Drain causes, in the order of their codes (Table 11-4). -/
inductive DrainCause where
  | none
  | power
  | pfail
  | reset
  | restart
  deriving DecidableEq, Repr

/-- Drain phases, in the order of their codes (Table 11-4). -/
inductive DrainPhase where
  | none
  | settling
  | rollingBack
  | recording
  deriving DecidableEq, Repr

/-- Where INIT stands (R142): step 1, step 2, or the calibration or the first survey of step 3.
Steps 4 and 5 take no time. -/
inductive InitStep where
  | clear
  | store
  | calibrate
  | firstSurvey
  deriving DecidableEq, Repr

/-- Power control (R139). `initStep` is present in INIT alone; `settleSince` is present while the
settle timer runs (R152). -/
structure Power where
  device : DeviceState
  initStep : Option InitStep
  cause : DrainCause
  phase : DrainPhase
  resetRemembered : Bool
  commits : Nat
  settleSince : Option Nat
  deriving DecidableEq, Repr

/-! ### Outcome store (chapter 9) -/

/-- Slot states (R154). -/
inductive SlotState where
  | erased
  | valid
  | invalid
  deriving DecidableEq, Repr

/-- Why a sector is being erased: the repair of a torn sector (R158), or step 3 or step 4 of
preparation (R159). -/
inductive EraseWhy where
  | repair
  | noErasedSlot
  | roomForTwo
  deriving DecidableEq, Repr

/-- The store's present operation (R163). A program carries the record it writes and whether it is
the drain's END record. -/
inductive StoreOp where
  | idle
  | scanning
  | erasing (sector : Fin 4) (why : EraseWhy)
  | programming (slot : Fin 64) (isEnd : Bool) (bytes : Block)
  deriving DecidableEq, Repr

/-- Last-drain outcomes, in the order of their codes (Table 11-4). -/
inductive LastOutcome where
  | none
  | complete
  | partialDrain
  | interrupted
  | unrecorded
  deriving DecidableEq, Repr

/-- The last-drain report (R161). -/
structure LastDrain where
  outcome : LastOutcome
  seq : Option (BitVec 32)
  cause : DrainCause
  deriving DecidableEq, Repr

/-- The outcome store: the nonvolatile slots, the slot table (empty until a scan, R154), next-slot
position, usable flag, drain sequence number, last-drain report and present operation. -/
structure Store where
  slots : Vector Block 64
  table : List SlotState
  next : Fin 64
  usable : Bool
  drainSeq : BitVec 32
  report : LastDrain
  op : StoreOp
  deriving DecidableEq, Repr

/-! ### Management port (chapter 10) -/

/-- Response statuses (Table 10-2, Table 11-3). -/
inductive RespStatus where
  | ok
  | accepted
  | badCheck
  | badCommand
  | badLength
  | badValue
  | busy
  | notNow
  | noEpoch
  | empty
  deriving DecidableEq, Repr

/-- A response: its status and payload (R168). -/
structure Response where
  status : RespStatus
  payload : List Byte
  deriving DecidableEq, Repr

/-- Event kinds that make a record, in the order of their flag positions (R179). -/
inductive EventKind where
  | shortfall
  | meterFault
  | epochLost
  | streamHalted
  | holdExpired
  | memoryTimeout
  | memoryError
  | storeFault
  | commandDone
  | initDone
  deriving DecidableEq, Repr

/-- Memory request kinds as an event reports them (Table 11-4). -/
inductive RequestKind where
  | read
  | pass
  | capture
  | forward
  | restore
  | lingerRestore
  deriving DecidableEq, Repr

/-- The detail of an event record (R179). `calibrateDone` carries the offset, and `none` for
ABANDONED in place of whether its magnitude is within 512. -/
inductive Detail where
  | none
  | shortfall (entries ceiling : Nat)
  | meterFault (raw offset : Bool)
  | cause (c : RollCause)
  | failedCount (n : Nat)
  | reason (r : HoldReason)
  | request (k : RequestKind) (tag : Nat)
  | program (slot : Nat)
  | erase (sector : Nat)
  | retryDone (restored failed : Nat)
  | calibrateDone (within : Option Bool) (offset : Int)
  | restartDone (seq : BitVec 32) (restored failed : Nat)
  | initDone (report : LastDrain)
  deriving DecidableEq, Repr

/-- An event record (R175, R179). -/
structure EventRec where
  kind : EventKind
  stream : Option StreamId
  epoch : Option EpochNo
  line : Option LineAddr
  entry : Option Nat
  detail : Detail
  deriving DecidableEq, Repr

/-- The frame receiver (R165): IDLE, RECEIVING with the bytes collected since the address and the
over-long mark, or SENDING with the number of bytes clocked out. -/
inductive Receiver where
  | idle
  | receiving (address : Byte) (bytes : List Byte) (overLong : Bool)
  | sending (count : Nat)
  deriving DecidableEq, Repr

/-- The management port: strapped address, receiver, what the part showed on MDAT in the latest frame
(its answer at the ninth clock of each byte it received, address byte first, and the bytes it sent),
pending response, outstanding long commands, event flags, alert mask and event queue (oldest first). -/
structure Mgmt where
  address : BitVec 7
  receiver : Receiver
  acked : List Bool
  sent : List Byte
  response : Option Response
  restartOut : Bool
  calibrateOut : Bool
  retryOut : List StreamId
  flags : BitVec 16
  mask : BitVec 16
  events : List EventRec
  deriving DecidableEq, Repr

/-! ### The whole machine -/

/-- The state of the KJ512, with the queue of the commands that wait. -/
structure State where
  pending : List Instr
  now : Nat
  initTime : Nat
  freeCount : Nat
  pins : Pins
  bus : HostBus
  host : HostPort
  cls : Classifier
  journal : Journal
  epochs : EpochCtl
  wc : WriteCtl
  engine : Engine
  port : MemPort
  meter : Meter
  power : Power
  store : Store
  mgmt : Mgmt
  deriving DecidableEq, Repr

/-- Reasons a step stops with a fault. The spec names no condition that stops the part (errors are
answered, discarded or kept as state), so there is none, and no command faults. -/
inductive Fault where
  deriving DecidableEq, Repr

/-- Reasons a step is refused. -/
inductive Refusal where
  /-- Raised by an arm of `exec` whose command has no meaning yet; safe (the machine stops). Every
  command has a meaning, so no arm raises it. -/
  | notModelled (mnemonic : String)
  deriving DecidableEq, Repr

/-! ### Values after POR -/

/-- 64 bytes of 00h. -/
def zeroBlock : Block := Vector.replicate 64 0#8

/-- An erased slot reads FFh in every byte (R180). -/
def erasedBlock : Block := Vector.replicate 64 0xFF#8

/-- All windows disabled and all sources NONE (Table 3-5). -/
def Classifier.por : Classifier where
  windows := Vector.replicate 8 ⟨false, .journal, 0, 1⟩
  sourceMap := Vector.replicate 32 none

/-- The journal with every entry FREE (R22). -/
def Journal.cleared : Journal := ⟨[], 0#32⟩

/-- A stream record after POR (Table 2-5, R26). -/
def Stream.por : Stream where
  state := .closed
  epoch := 0#16
  opening := 0#32
  inFlight := 0
  doomed := false
  age := .stopped 0
  kept := none
  origin := none
  lossCause := none
  lossRestored := 0
  lossFailed := 0
  noticeOwed := false
  policy := .wait
  holdLimit := 100
  quota := 512
  ageLimit := 0

/-- The rollback engine at INIT (Table 5-4). -/
def Engine.cleared : Engine := ⟨[], [], [], 0, 0, 0⟩

/-- The memory port after POR (Table 6-2). -/
def MemPort.por : MemPort := ⟨Vector.replicate 48 .free, [], 20, []⟩

/-- The meter after POR (Table 7-3). -/
def Meter.por : Meter where
  mode := .stopped
  raw := 0
  offset := 0
  store := 0
  credit := 0
  stale := true
  faultRaw := false
  faultOffset := false
  shortfall := false
  period := 100
  reserve := 8000
  cost := 40
  cap := 512

/-- Power control's own items at POR (R141), in a device state. -/
def Power.por (device : DeviceState) (initStep : Option InitStep) : Power :=
  ⟨device, initStep, .none, .none, false, 0, none⟩

/-- The outcome store after POR (Table 9-1), over the slots it kept. -/
def Store.por (slots : Vector Block 64) : Store :=
  ⟨slots, [], 0, true, 0#32, ⟨.none, none, .none⟩, .idle⟩

/-- The management port after POR with a strapped address (Table 10-5, R164). -/
def Mgmt.por (address : BitVec 7) : Mgmt :=
  ⟨address, .idle, [], [], none, false, false, [], 0#16, 0#16, []⟩

/-- The machine right after reset: the part right after POR, in step 2 of INIT with the scan of the
outcome store begun (R141, R142). Levels of the lines, straps and slots: LOG 3 and 4. -/
def State.reset : State where
  pending := []
  now := 0
  initTime := 0
  freeCount := 0
  pins := ⟨true, true, true⟩
  bus := ⟨[], []⟩
  host := ⟨[], [], [], []⟩
  cls := Classifier.por
  journal := Journal.cleared
  epochs := ⟨Vector.replicate 8 Stream.por, 0#32⟩
  wc := ⟨[], false⟩
  engine := Engine.cleared
  port := MemPort.por
  meter := Meter.por
  power := Power.por .init (some .store)
  store := { Store.por (Vector.replicate 64 erasedBlock) with op := .scanning }
  mgmt := Mgmt.por 0x5C#7

end Sys2Proof.Machine
end

