-- ==== Sys2Proof/Machine/Flags.lean ====
section
/-! DEFINITION. Events, event flags, the alert mask and the two status outputs (R139, R173, R174,
R175, R179). -/

namespace Sys2Proof.Machine

/-- The flag position of an event kind, which is also its kind code (R179). -/
def EventKind.position : EventKind → Nat
  | .shortfall => 0
  | .meterFault => 1
  | .epochLost => 2
  | .streamHalted => 3
  | .holdExpired => 4
  | .memoryTimeout => 5
  | .memoryError => 6
  | .storeFault => 7
  | .commandDone => 8
  | .initDone => 9

/-- The flag of an event kind (R179). -/
def EventKind.flag (k : EventKind) : BitVec 16 := 1#16 <<< k.position

/-- The EVENTS_DROPPED flag, position 10 (R179). -/
def droppedFlag : BitVec 16 := 0x0400#16

/-- The eleven used positions of the flags and of the alert mask (R173, R179). -/
def usedFlags : BitVec 16 := 0x07FF#16

/-- The event queue holds up to 16 records (R175). -/
def eventQueueSize : Nat := 16

/-- An event is recorded: its flag is set, and its record joins the young end of the queue, or is
discarded with EVENTS_DROPPED set when the queue is full (R173, R175). -/
def Mgmt.record (e : EventRec) (m : Mgmt) : Mgmt :=
  if m.events.length < eventQueueSize then
    { m with flags := m.flags ||| e.kind.flag, events := m.events ++ [e] }
  else
    { m with flags := m.flags ||| e.kind.flag ||| droppedFlag }

/-- An event is raised at the management port (R173, R175). -/
def State.raise (e : EventRec) (s : State) : State := { s with mgmt := s.mgmt.record e }

/-- FLAGS_CLEAR's effect on the flags: every flag named in the mask is cleared (R173). -/
def clearFlags (flags mask : BitVec 16) : BitVec 16 := flags &&& ~~~mask

/-- The alert mask as stored: the five unused positions are stored as 0 (R174). -/
def storedMask (mask : BitVec 16) : BitVec 16 := mask &&& usedFlags

/-- The level of an output line. -/
inductive Level where
  | low
  | high
  | notDriven
  deriving DecidableEq, Repr

/-- ALERT_N: low while a masked flag is set, released high otherwise, not driven in OFF (R174). -/
def State.alertN (s : State) : Level :=
  if s.power.device = .off then .notDriven
  else if s.mgmt.flags &&& s.mgmt.mask = 0#16 then .high
  else .low

/-- The READY output: high in READY, low in INIT, DRAIN and SPENT, not driven in OFF (R139). -/
def State.readyPin (s : State) : Level :=
  match s.power.device with
  | .off => .notDriven
  | .ready => .high
  | .init | .drain | .spent => .low

end Sys2Proof.Machine
end

