-- ==== Sys2Proof/Machine/Ops.lean ====
section
/-! DEFINITION. The named operations over the blocks' state that every meaning is built from: time,
stream records, answers on the host port, entries and counts of the journal, and issuing at the
memory port. -/

namespace Sys2Proof.Machine

/-! ### Time -/

/-- The time since INIT (R78 Table 4-2). -/
def State.sinceInit (s : State) : Nat := s.now - s.initTime

/-- The clock is brought on to a moment that an expiry shows to have come (LOG 2). -/
def State.advanceTo (t : Nat) (s : State) : State := { s with now := max s.now t }

/-- The largest age reported (R25): 32 bits, saturating. -/
def maxAge : Nat := 2 ^ 32 - 1

/-- The age at a time (R29). -/
def Age.valueAt (now : Nat) : Age → Nat
  | .stopped ms => ms
  | .running since => min (now - since) maxAge

/-- The age keeps its value, without running (R29). -/
def Age.stop (now : Nat) (a : Age) : Age := .stopped (a.valueAt now)

/-- A vector with each element replaced. -/
def mapVector {α β : Type} {n : Nat} (f : α → β) (v : Vector α n) : Vector β n :=
  ⟨(v.toList.map f).toArray, by simp⟩

/-! ### Stream records -/

/-- The eight streams in ascending order. -/
def allStreams : List StreamId := [0, 1, 2, 3, 4, 5, 6, 7]

/-- The record of stream `n`. -/
def State.stream (s : State) (n : StreamId) : Stream := s.epochs.streams[n]

/-- The record of stream `n` is replaced. -/
def State.setStream (n : StreamId) (r : Stream) (s : State) : State :=
  { s with epochs := { s.epochs with streams := s.epochs.streams.set n r } }

/-- The record of stream `n` is changed. -/
def State.updStream (n : StreamId) (f : Stream → Stream) (s : State) : State :=
  s.setStream n (f (s.stream n))

/-- Doom (R34): stream `n`'s current epoch can no longer commit. -/
def State.doom (n : StreamId) (s : State) : State :=
  s.updStream n fun r => { r with doomed := true }

/-! ### Answers on the host port -/

/-- The slot holds the unanswered request of a pair; a duplicate is answered at its acceptance and
never matches (R60). -/
def WriteSlot.awaits (p : Pair) (x : WriteSlot) : Bool :=
  x.req.pair == p && !x.duplicate && !x.answered

/-- The read slot holds the unanswered request of a pair. -/
def ReadSlot.awaits (p : Pair) (x : ReadSlot) : Bool :=
  x.req.pair == p && !x.duplicate && !x.answered

/-- A write or marker is answered: its response is placed on the write response channel (R58). -/
def HostPort.answerWrite (p : Pair) (st : WriteStatus) (h : HostPort) : HostPort :=
  if h.writeSlots.any (·.awaits p) then
    { h with
      writeSlots := h.writeSlots.map fun x => if x.awaits p then { x with answered := true } else x
      writeResponses := h.writeResponses ++ [⟨p, st, false⟩] }
  else h

/-- A read is answered: its response is placed on the read response channel (R57, R58). -/
def HostPort.answerRead (p : Pair) (st : ReadStatus) (data : Block) (h : HostPort) : HostPort :=
  if h.readSlots.any (·.awaits p) then
    { h with
      readSlots := h.readSlots.map fun x => if x.awaits p then { x with answered := true } else x
      readResponses := h.readResponses ++ [⟨p, st, data, false⟩] }
  else h

/-- A write or marker is answered (R58). -/
def State.answerWrite (p : Pair) (st : WriteStatus) (s : State) : State :=
  { s with host := s.host.answerWrite p st }

/-- A read is answered (R57). -/
def State.answerRead (p : Pair) (st : ReadStatus) (data : Block) (s : State) : State :=
  { s with host := s.host.answerRead p st data }

/-- The outstanding set of write pairs (R60). -/
def HostPort.writePairs (h : HostPort) : List Pair :=
  (h.writeSlots.filter (!·.duplicate)).map (·.req.pair)

/-- The outstanding set of read pairs (R60). -/
def HostPort.readPairs (h : HostPort) : List Pair :=
  (h.readSlots.filter (!·.duplicate)).map (·.req.pair)

/-! ### Journal entries and counts -/

/-- The journal has 512 entries (R1). -/
def journalSize : Nat := 512

/-- The entry is in the image-holding state `st`. -/
def Entry.isIn (st : ImageState) (e : Entry) : Bool :=
  match e.body with
  | .capturing _ => false
  | .holding st' _ => st' == st

/-- The entry is CAPTURING. -/
def Entry.isCapturing (e : Entry) : Bool :=
  match e.body with
  | .capturing _ => true
  | .holding _ _ => false

/-- The before-image, absent in CAPTURING (R2). -/
def Entry.image (e : Entry) : Option Block :=
  match e.body with
  | .capturing _ => none
  | .holding _ im => some im

/-- An entry that holds a before-image moves to another state, keeping the image (Table 1-4). -/
def Entry.moveTo (st : ImageState) (e : Entry) : Entry :=
  match e.body with
  | .capturing _ => e
  | .holding _ im => { e with body := .holding st im }

/-- The working entry with an index; `none` for a FREE entry. -/
def Journal.entry? (i : Nat) (j : Journal) : Option Entry := j.entries.find? (·.index == i)

/-- The line index (R7): the working entry that owns a line. -/
def Journal.atLine? (l : LineAddr) (j : Journal) : Option Entry := j.entries.find? (·.line == l)

/-- The entry with an index is changed. -/
def Journal.updEntry (i : Nat) (f : Entry → Entry) (j : Journal) : Journal :=
  { j with entries := j.entries.map fun e => if e.index == i then f e else e }

/-- The entry with an index becomes FREE (R21 steps 1 to 3). -/
def Journal.removeEntry (i : Nat) (j : Journal) : Journal :=
  { j with entries := j.entries.filter (·.index != i) }

/-- An entry is put at its place in the index order. -/
def insertEntry (e : Entry) : List Entry → List Entry
  | [] => [e]
  | x :: xs => if e.index < x.index then e :: x :: xs else x :: insertEntry e xs

/-- The lowest index from `k` on that a list of entries in rising index order leaves FREE (R12). -/
def lowestFree (k : Nat) : List Entry → Nat
  | [] => k
  | x :: xs => if x.index = k then lowestFree (k + 1) xs else k

/-- The working entry with an index. -/
def State.entry? (i : Nat) (s : State) : Option Entry := s.journal.entry? i

/-- The entry with an index is changed. -/
def State.updEntry (i : Nat) (f : Entry → Entry) (s : State) : State :=
  { s with journal := s.journal.updEntry i f }

/-- The entry count (R10). -/
def State.entryCount (s : State) : Nat := s.journal.entries.length

/-- The stream entry count (R10). -/
def State.streamEntries (n : StreamId) (s : State) : Nat :=
  s.journal.entries.countP (·.stream == n)

/-- The stream failed count (R10). -/
def State.streamFailed (n : StreamId) (s : State) : Nat :=
  s.journal.entries.countP fun e => e.stream == n && e.isIn .failed

/-- The stream held count (R28): its items in the hold queue, all reasons. -/
def State.heldCount (n : StreamId) (s : State) : Nat := s.wc.hold.countP (·.stream == n)

/-- The effective ceiling: the smallest of the credit figure, the credit cap and 512 (R11). -/
def State.effectiveCeiling (s : State) : Nat := min (min s.meter.credit s.meter.cap) journalSize

/-- The shortfall evaluation (R136): SHORTFALL is raised at the onset alone. -/
def State.evalShortfall (s : State) : State :=
  if s.effectiveCeiling < s.entryCount then
    if s.meter.shortfall then s
    else
      ({ s with meter := { s.meter with shortfall := true } }).raise
        ⟨.shortfall, none, none, none, none, .shortfall s.entryCount s.effectiveCeiling⟩
  else { s with meter := { s.meter with shortfall := false } }

/-- A re-examination pass is owed at the end of the running act (R84). -/
def State.owePass (s : State) : State := { s with wc := { s.wc with passDue := true } }

/-- The ties that name an entry are cut; their tags stay poisoned (R121). -/
def MemPort.cutTies (i : Nat) (m : MemPort) : MemPort :=
  { m with
    tags := mapVector (fun t => match t with
      | .poisoned (some tie) => if tie.entry == i then .poisoned none else t
      | _ => t) m.tags }

/-- Freeing an entry, whatever its cause (R21): its mapping, counts, image and ties go, shortfall is
evaluated, and a pass is owed. -/
def State.freeEntry (i : Nat) (s : State) : State :=
  ({ s with journal := s.journal.removeEntry i, port := s.port.cutTies i }).evalShortfall.owePass

/-- Several entries are freed by one act (R21). -/
def State.freeEntries (is : List Nat) (s : State) : State := is.foldl (fun s i => s.freeEntry i) s

/-! ### Issuing at the memory port -/

/-- General tags are 0 to 43, reserved tags 44 to 47 (R111). -/
def generalTags : Nat := 44

/-- All tags (R111). -/
def tagCount : Nat := 48

/-- The lowest-numbered free general tag (R111). -/
def MemPort.freeGeneral? (m : MemPort) : Option Nat :=
  (List.range generalTags).find? fun t => m.tags[t]? == some .free

/-- The lowest-numbered free reserved tag (R111). -/
def MemPort.freeReserved? (m : MemPort) : Option Nat :=
  ((List.range tagCount).drop generalTags).find? fun t => m.tags[t]? == some .free

/-- The request is a restore write. -/
def Request.isRestore : Request → Bool
  | .restore _ _ _ => true
  | _ => false

/-- The line of a request. -/
def Request.line : Request → LineAddr
  | .hostRead _ l | .passWrite _ l | .capture _ l | .forward _ l _ _ _ | .restore _ l _ => l

/-- Mask and data of an accepted write, from its slot (R76, R114). -/
def HostPort.writeData (p : Pair) (h : HostPort) : ByteMask × Block :=
  match h.writeSlots.find? fun x => x.req.pair == p && !x.duplicate with
  | some x => (x.req.mask, x.req.data)
  | none => (0#64, zeroBlock)

/-- The bus request of a request issued on a tag (R114). -/
def State.busRequest (t : Nat) (r : Request) (s : State) : BusRequest where
  tag := BitVec.ofNat 6 t
  line := r.line
  write := match r with
    | .hostRead _ _ | .capture _ _ => none
    | .passWrite p _ | .forward p _ _ _ _ => some (s.host.writeData p)
    | .restore i _ _ =>
      some (BitVec.allOnes 64, ((s.entry? i).bind Entry.image).getD zeroBlock)

/-- Issuing (R114, R118): the tag is in use with the response limit in force, its timer runs from
now, and the request is placed on the request channel. -/
def State.issueOn (t : Nat) (r : Request) (s : State) : State :=
  { s with port := { s.port with
      tags := s.port.tags.setIfInBounds t (.inUse r s.now s.port.limit)
      issued := s.port.issued ++ [s.busRequest t r] } }

/-- One issue from the queue: the oldest waiting restore takes a free reserved tag (R113), or the
head takes a free general tag (R112); `none` when neither can. -/
def State.issueOne (s : State) : Option State :=
  match s.port.freeReserved?, s.port.queue.find? Request.isRestore with
  | some t, some r =>
    some (({ s with port := { s.port with queue := s.port.queue.eraseP Request.isRestore } }).issueOn t r)
  | _, _ =>
    match s.port.freeGeneral?, s.port.queue with
    | some t, r :: rest => some (({ s with port := { s.port with queue := rest } }).issueOn t r)
    | _, _ => none

/-- Issuing repeats until no request of the queue can be issued (R112). -/
def State.issueWhile : Nat → State → State
  | 0, s => s
  | fuel + 1, s =>
    match s.issueOne with
    | some s' => s'.issueWhile fuel
    | none => s

/-- The step of R112 and R113 as each event takes it: every request that can be issued is. -/
def State.offerTags (s : State) : State := s.issueWhile s.port.queue.length

/-- A request joins the young end of the issue queue (R112). -/
def State.enqueueRequest (r : Request) (s : State) : State :=
  ({ s with port := { s.port with queue := s.port.queue ++ [r] } }).offerTags

/-- A restore write takes a free reserved tag at once, or joins the issue queue (R97, R113). -/
def State.submitRestore (r : Request) (s : State) : State :=
  match s.port.freeReserved? with
  | some t => s.issueOn t r
  | none => s.enqueueRequest r

/-- A tag gets a new state. -/
def State.setTag (t : Nat) (x : Tag) (s : State) : State :=
  { s with port := { s.port with tags := s.port.tags.setIfInBounds t x } }

/-- A tag becomes free and is offered (R112, R113, R115). -/
def State.releaseTag (t : Nat) (s : State) : State := (s.setTag t .free).offerTags

end Sys2Proof.Machine
end

