-- ==== Sys2Proof/Machine/MeterOps.lean ====
section
/-! DEFINITION. The hold-up meter's shared operations (chapter 7): surveys, publication and
calibration. -/

namespace Sys2Proof.Machine

/-- A new survey begins, latching the configuration then in force (R127). -/
def State.startSurvey (s : State) : State :=
  { s with meter := { s.meter with
      mode := .running ⟨s.now, s.meter.period, s.meter.reserve, s.meter.cost⟩ } }

/-- A calibration starts: the survey in progress is dropped, the period latched, and the stale
indication set (R132). -/
def State.startCalibration (requested : Bool) (s : State) : State :=
  { s with meter := { s.meter with
      mode := .calibrating ⟨s.now, s.meter.period, none, requested⟩, stale := true } }

/-- The largest reading, 65535 (R129). -/
def maxReading : Nat := 65535

/-- The largest credit figure, 4095 (R129). -/
def maxCredit : Nat := 4095

/-- The store reading: raw reading minus offset, floored at 0 and capped at 65535 (R129). -/
def storeReading (raw : Nat) (offset : Int) : Nat :=
  (min (max ((raw : Int) - offset) 0) maxReading).toNat

/-- The credit figure of a good publication (R129, Table 7-1). -/
def creditFigure (store reserve cost : Nat) : Nat :=
  if reserve < store then min ((store - reserve) / cost) maxCredit else 0

/-- The fault test on the raw reading (R135). -/
def rawFails (raw : Nat) : Bool := raw == 0 || raw == maxReading

/-- The fault test on the offset (R135). -/
def offsetFails (offset : Int) : Bool := 512 < offset.natAbs

/-- The fault condition (R135). -/
def Meter.faulted (m : Meter) : Bool := m.faultRaw || m.faultOffset

/-- The readings and the credit figure a publication sets (R129, R135). -/
def Meter.publish (sv : Survey) (raw : Nat) (m : Meter) : Meter :=
  let store := storeReading raw m.offset
  let fr := rawFails raw
  let fo := offsetFails m.offset
  { m with
    raw := raw
    store := store
    faultRaw := fr
    faultOffset := fo
    credit := if fr || fo then 0 else creditFigure store sv.reserve sv.cost
    stale := false }

/-- A publication as one act, but for its pass (R129, R130): values, METER_FAULT at a fault onset,
the shortfall evaluation, a pass owed, and the next survey begun. -/
def State.publish (sv : Survey) (raw : Nat) (s : State) : State :=
  let before := s.meter.faulted
  let m := s.meter.publish sv raw
  let s := { s with meter := m }
  let s :=
    if m.faulted && !before then
      s.raise ⟨.meterFault, none, none, none, none, .meterFault m.faultRaw m.faultOffset⟩
    else s
  (s.evalShortfall.owePass).startSurvey

/-- The mean of two zero readings, any half dropped toward zero (R132). -/
def zeroMean (a b : Int) : Int := (a + b).tdiv 2

/-- COMMAND_DONE of a CALIBRATE, which leaves the list of long commands (R132, R134, R172). -/
def State.completeCalibrate (within : Option Bool) (s : State) : State :=
  let s := s.raise ⟨.commandDone, none, none, none, none, .calibrateDone within s.meter.offset⟩
  { s with mgmt := { s.mgmt with calibrateOut := false } }

/-- The end of a calibration: the offset is set, a new survey begins, and a requested one raises
COMMAND_DONE (R132). -/
def State.endCalibration (c : Calibration) (first second : Int) (s : State) : State :=
  let offset := zeroMean first second
  let s := ({ s with meter := { s.meter with offset := offset } }).startSurvey
  if c.requested then s.completeCalibrate (some (!offsetFails offset)) else s

/-- A calibration asked for by CALIBRATE is abandoned at a drain's start (R134). -/
def State.abandonCalibration (s : State) : State :=
  match s.meter.mode with
  | .calibrating _ => s.startSurvey.completeCalibrate none
  | .stopped | .running _ => s

end Sys2Proof.Machine
end

