-- ==== Sys2Proof/Machine/Engine.lean ====
section
/-! DEFINITION. The rollback engine (chapter 5): settling, selecting, filling restore positions, the
end of a job and what the epoch controller does then (R47, R51). -/

namespace Sys2Proof.Machine

/-! ### Newest first (R3) -/

/-- The age of an entry: the sequence counter's present value minus the entry's sequence, modulo
2^32 (R3). -/
def Entry.age (counter : BitVec 32) (e : Entry) : Nat := (counter - e.sequence).toNat

/-- `a` is newer than `b`: the smaller age, and at equal sequence the higher index (R3). -/
def Entry.newerThan (counter : BitVec 32) (a b : Entry) : Bool :=
  a.age counter < b.age counter || (a.age counter == b.age counter && b.index < a.index)

/-- The newest of a list of entries (R3). -/
def newestEntry (counter : BitVec 32) : List Entry → Option Entry
  | [] => none
  | e :: es =>
    match newestEntry counter es with
    | none => some e
    | some b => if e.newerThan counter b then some e else some b

/-! ### Jobs -/

/-- The restore queue's fresh job (R93, R94): QUEUED, nothing restored. -/
def State.newJob (kind : JobKind) (n : StreamId) (cause : RollCause) (s : State) : Job :=
  ⟨kind, n, (s.stream n).epoch, cause, .queued, [], 0, 0, false⟩

/-- A job joins the young end of the restore queue (R93). -/
def State.enqueueJob (kind : JobKind) (n : StreamId) (cause : RollCause) (s : State) : State :=
  { s with engine := { s.engine with queue := s.engine.queue ++ [s.newJob kind n cause] } }

/-- Stream `n` holds a job in the restore queue. -/
def State.hasJob (n : StreamId) (s : State) : Bool := s.engine.queue.any (·.stream == n)

/-- The journal holds a CAPTURING entry of a stream and epoch. -/
def State.hasCapturing (n : StreamId) (ep : EpochNo) (s : State) : Bool :=
  s.journal.entries.any fun e => e.stream == n && e.epoch == ep && e.isCapturing

/-- The settle condition (R95). -/
def Job.settled (s : State) (j : Job) : Bool :=
  match j.kind with
  | .epoch => !s.hasCapturing j.stream j.epoch && (s.stream j.stream).inFlight == 0
  | .retry => true

/-- The entries a job in RESTORE has left to select (R96). -/
def Job.candidates (s : State) (j : Job) : List Entry :=
  match j.kind with
  | .epoch =>
    s.journal.entries.filter fun e => e.stream == j.stream && e.epoch == j.epoch && e.isIn .live
  | .retry => s.journal.entries.filter fun e => j.retrySet.contains e.index && e.isIn .failed

/-- The retry set fixed at the entry into RESTORE: the stream's FAILED entries (R96). -/
def State.failedIndexes (n : StreamId) (s : State) : List Nat :=
  (s.journal.entries.filter fun e => e.stream == n && e.isIn .failed).map (·.index)

/-- The phase a job has once it is current: QUEUED becomes SETTLE, and SETTLE becomes RESTORE when
the settle condition holds (R94, R95). -/
def Job.advance (s : State) (j : Job) : Job :=
  match j.phase with
  | .restore => j
  | .queued | .settle =>
    if j.settled s then
      { j with
        phase := .restore
        retrySet := match j.kind with
          | .epoch => []
          | .retry => s.failedIndexes j.stream }
    else { j with phase := .settle }

/-- The oldest job is current and advances (R93, R94, R95). -/
def State.advanceJob (s : State) : State :=
  match s.engine.queue with
  | [] => s
  | j :: rest => { s with engine := { s.engine with queue := j.advance s :: rest } }

/-! ### Restore positions (R97, R98) -/

/-- There are four restore positions (R97). -/
def restorePositions : Nat := 4

/-- An entry becomes RESTORING, takes a position, and its restore write is handed to the memory port
(R96, R97). -/
def State.startRestore (e : Entry) (linger : Bool) (s : State) : State :=
  let s := s.updEntry e.index (Entry.moveTo .restoring)
  let held : Position := ⟨e.index, linger⟩
  let s := { s with engine := { s.engine with positions := s.engine.positions ++ [held] } }
  s.submitRestore (.restore e.index e.line linger)

/-- The entry the current job selects next: the newest of its candidates whose in-flight count is 0
(R18, R96). -/
def State.nextJobEntry (s : State) : Option Entry :=
  match s.engine.queue with
  | [] => none
  | j :: _ =>
    match j.phase with
    | .queued | .settle => none
    | .restore =>
      newestEntry s.journal.counter ((j.candidates s).filter fun e => e.inFlight == 0)

/-- The current job has selected an entry: it leaves the job's retry set (R96). -/
def Engine.markSelected (i : Nat) (g : Engine) : Engine :=
  match g.queue with
  | [] => g
  | j :: rest => { g with queue := { j with retrySet := j.retrySet.erase i } :: rest }

/-- A free position goes first to the oldest entry of the linger-pending list, then to the current
job (R98); `none` when no position is free or nothing remains to take it. -/
def State.fillOne (s : State) : Option State :=
  if s.engine.positions.length < restorePositions then
    match s.engine.lingerPending with
    | i :: rest =>
      let s' := { s with engine := { s.engine with lingerPending := rest } }
      match s.entry? i with
      | some e => some (s'.startRestore e true)
      | none => some s'
    | [] =>
      match s.nextJobEntry with
      | some e => some (({ s with engine := s.engine.markSelected e.index }).startRestore e false)
      | none => none
  else none

/-- Positions are filled until all are held or nothing remains to take them (R98). -/
def State.fillWhile : Nat → State → State
  | 0, s => s
  | fuel + 1, s =>
    match s.fillOne with
    | some s' => s'.fillWhile fuel
    | none => s

/-- The engine fills free positions (R98). -/
def State.fillPositions (s : State) : State :=
  s.fillWhile (s.engine.lingerPending.length + restorePositions)

/-! ### The end of a job (R47, R51, R100, R101) -/

/-- Table 2-3: the stream's new state and the status that answers the kept marker, by cause, origin
and failed count. -/
def epochJobResult (cause : RollCause) (origin : Option Origin) (failed : Nat) :
    StreamState × WriteStatus :=
  if failed = 0 then
    match cause, origin with
    | .mark, _ => (.closed, .ok)
    | .drain, _ => (.closed, .lost)
    | .doomed, some .committing | .mgmt, some .committing | .line, some .committing
    | .aged, some .committing => (.closed, .lost)
    | .doomed, _ | .mgmt, _ | .line, _ | .aged, _ => (.abandoned, .lost)
  else (.halted, .memory)

/-- A stream enters CLOSED, ABANDONED or HALTED: CLOSED sets the age to 0 and doomed to no, the
other two keep both (R29, R35, R47). -/
def Stream.enter (st : StreamState) (r : Stream) : Stream :=
  match st with
  | .closed => { r with state := .closed, age := .stopped 0, doomed := false }
  | _ => { r with state := st }

/-- The epoch controller's part of an EPOCH job's end (R47): losses recorded, the stream moved by
Table 2-3, its kept marker answered, notice owed set. The stream leaves ROLLING, so a pass is owed (R84). -/
def State.endEpochJob (j : Job) (failed : Nat) (s : State) : State :=
  let r := s.stream j.stream
  let (st, answer) := epochJobResult j.cause r.origin failed
  let s := match r.kept with
    | some k => s.answerWrite k.pair answer
    | none => s
  let notice := match st with
    | .abandoned => true
    | .halted => r.kept.isNone
    | _ => false
  (s.updStream j.stream fun r =>
    { (r.enter st) with
      lossRestored := j.restored, lossFailed := failed, noticeOwed := notice,
      kept := none, origin := none }).owePass

/-- The state a resolved HALTED stream goes to (R51, R52). -/
def resolvedState (noticeOwed : Bool) : StreamState := if noticeOwed then .abandoned else .closed

/-- The epoch controller's part of a RETRY job's end (R51): with no entry FAILED the stream leaves HALTED,
so a pass is owed; a stream that stays HALTED is no event of R84's list. -/
def State.endRetryJob (j : Job) (failed : Nat) (s : State) : State :=
  if failed = 0 then (s.updStream j.stream fun r => r.enter (resolvedState r.noticeOwed)).owePass
  else s

/-- A stream's RETRY leaves the list of outstanding long commands (R172). -/
def State.completeRetry (n : StreamId) (s : State) : State :=
  { s with mgmt := { s.mgmt with retryOut := s.mgmt.retryOut.filter (· != n) } }

/-- The cause is one whose EPOCH job raises EPOCH_LOST (Table 5-3). -/
def RollCause.raisesLost : RollCause → Bool
  | .mgmt | .line | .aged => true
  | .mark | .doomed | .drain => false

/-- The events of a job's end, in the order of Table 5-3 (R101). -/
def State.raiseJobEnd (j : Job) (failed : Nat) (s : State) : State :=
  let s :=
    if j.kind = .epoch ∧ j.cause.raisesLost then
      s.raise ⟨.epochLost, some j.stream, some j.epoch, none, none, .cause j.cause⟩
    else s
  let s :=
    if (s.stream j.stream).state = .halted then
      s.raise ⟨.streamHalted, some j.stream, some j.epoch, none, none, .failedCount failed⟩
    else s
  if j.kind = .retry ∧ j.cause = .mgmt then
    (s.raise ⟨.commandDone, some j.stream, none, none, none, .retryDone j.restored failed⟩).completeRetry
      j.stream
  else s

/-- A job that stood in the queue before the drain's handing-over and ends after it with its stream
HALTED is followed by a RETRY job with cause DRAIN (R148). -/
def State.retryPriorJob (j : Job) (s : State) : State :=
  if s.power.device = .drain ∧ s.power.phase = .rollingBack ∧ j.prior = true
      ∧ (s.stream j.stream).state = .halted then
    s.enqueueJob .retry j.stream .drain
  else s

/-- The end of the current job as one act (R100). -/
def State.endJob (s : State) : State :=
  match s.engine.queue with
  | [] => s
  | j :: rest =>
    let failed := s.streamFailed j.stream
    let s := match j.kind with
      | .epoch => s.endEpochJob j failed
      | .retry => s.endRetryJob j failed
    let s := s.raiseJobEnd j failed
    let s := { s with engine := { s.engine with queue := rest } }
    s.retryPriorJob j

/-- The end condition of the current job (R100). -/
def State.jobOver (s : State) : Bool :=
  match s.engine.queue with
  | [] => false
  | j :: _ =>
    j.phase == .restore && (j.candidates s).isEmpty && !s.engine.positions.any (!·.linger)

/-- The engine goes on: the current job advances, free positions are filled, and a job whose end
condition holds ends and gives way to the next (R94, R98, R100). -/
def State.engineWhile : Nat → State → State
  | 0, s => s
  | fuel + 1, s =>
    let s := s.advanceJob.fillPositions
    if s.jobOver then s.endJob.engineWhile fuel else s

/-- The engine goes on as part of an event. Each end removes a job and adds at most one, which is
not followed by another (R148), so twice the queue's length and one rounds suffice. -/
def State.runEngine (s : State) : State := s.engineWhile (2 * s.engine.queue.length + 1)

end Sys2Proof.Machine
end

