-- ==== Sys2Proof/Machine/Epoch.lean ====
section
/-! DEFINITION. The epoch controller's acts (chapter 2): opening, entering ROLLING, the commit
condition and its two ends. -/

namespace Sys2Proof.Machine

/-- Opening an epoch on stream `n` (R30). -/
def State.openEpoch (n : StreamId) (s : State) : State :=
  let s' := s.updStream n fun r =>
    { r with
      epoch := r.epoch + 1#16
      opening := s.epochs.opening
      age := .running s.now
      doomed := false
      state := .open }
  { s' with epochs := { s'.epochs with opening := s'.epochs.opening + 1#32 } }

/-- The item is a member: a held write that belongs to its stream's epoch (R71, R79). -/
def HeldItem.isMember (it : HeldItem) : Bool := it.epoch.isSome

/-- The members of stream `n` in the hold queue, in arrival order. -/
def State.membersHeld (n : StreamId) (s : State) : List HeldItem :=
  s.wc.hold.filter fun it => it.stream == n && it.isMember

/-- Every member of stream `n` in the hold queue is answered LOST in arrival order and removed; the
answers doom the epoch (R34, R45 step 4, R89). -/
def State.loseMembers (n : StreamId) (s : State) : State :=
  let members := s.membersHeld n
  let s := members.foldl (fun s it => s.answerWrite it.pair .lost) s
  let s := { s with wc := { s.wc with
    hold := s.wc.hold.filter fun it => !(it.stream == n && it.isMember) } }
  if members.isEmpty then s else s.doom n

/-- The origin of an entry into ROLLING (R45): present when the stream holds an epoch. -/
def StreamState.origin? : StreamState → Option Origin
  | .open => some .open
  | .committing => some .committing
  | .closed | .rolling | .abandoned | .halted => none

/-- Stream `n` enters ROLLING as one act (R45); the engine takes the job up afterwards. A stream
that is neither OPEN nor COMMITTING has no epoch to roll back. -/
def State.enterRollingQueued (n : StreamId) (cause : RollCause) (s : State) : State :=
  match (s.stream n).state.origin? with
  | none => s
  | some origin =>
    let s := s.updStream n fun r =>
      { r with
        state := .rolling, age := r.age.stop s.now, origin := some origin, lossCause := some cause }
    ((s.loseMembers n).enqueueJob .epoch n cause).owePass

/-- Stream `n` enters ROLLING, and its job goes as far as it can (R45, R94). -/
def State.enterRolling (n : StreamId) (cause : RollCause) (s : State) : State :=
  (s.enterRollingQueued n cause).runEngine

/-- The commit condition (R36). -/
def State.commitCondition (n : StreamId) (s : State) : Bool :=
  (s.membersHeld n).isEmpty && !s.hasCapturing n (s.stream n).epoch && (s.stream n).inFlight == 0

/-- The indexes of the LIVE entries of stream `n`'s current epoch. -/
def State.liveIndexes (n : StreamId) (s : State) : List Nat :=
  (s.journal.entries.filter fun e =>
    e.stream == n && e.epoch == (s.stream n).epoch && e.isIn .live).map (·.index)

/-- One commit counted by power control in DRAIN (R147). -/
def State.countCommit (s : State) : State :=
  if s.power.device = .drain then
    { s with power := { s.power with commits := s.power.commits + 1 } }
  else s

/-- The commit of stream `n`'s epoch as one act (R17, R37). -/
def State.commitEpoch (n : StreamId) (s : State) : State :=
  let s := s.freeEntries (s.liveIndexes n)
  let s := match (s.stream n).kept with
    | some k => s.answerWrite k.pair .ok
    | none => s
  (s.updStream n fun r => { (r.enter .closed) with kept := none }).countCommit.owePass

/-- The test of the commit condition (R36): met, the epoch commits (R37), or enters ROLLING with
cause DOOMED in READY and stays COMMITTING in DRAIN (R38). -/
def State.testCommit (n : StreamId) (s : State) : State :=
  if (s.stream n).state = .committing ∧ s.commitCondition n = true then
    if (s.stream n).doomed then
      if s.power.device = .ready then s.enterRolling n .doomed else s
    else s.commitEpoch n
  else s

/-- A stream in ABANDONED gives its loss notice and enters CLOSED (R49). -/
def State.giveNotice (n : StreamId) (s : State) : State :=
  (s.updStream n fun r => { (r.enter .closed) with noticeOwed := false }).owePass

end Sys2Proof.Machine
end

