-- ==== Sys2Proof/Machine/WriteControl.lean ====
section
/-! DEFINITION. Write control (chapter 4): the path of a journaled write, markers at the epoch
controller, expiry, and re-examination passes. -/

namespace Sys2Proof.Machine

/-! ### The hold queue (R78 to R81) -/

/-- The reasons an item can expire under (Table 4-3). -/
def HoldReason.limited : HoldReason → Bool
  | .conflict | .admission | .epochWait => true
  | .captureWait | .lineOrder => false

/-- The line of a held write; absent for a marker. -/
def HeldItem.line? (it : HeldItem) : Option LineAddr :=
  match it.kind with
  | .write l => some l
  | .marker _ => none

/-- The item held under a pair. -/
def State.heldItem? (p : Pair) (s : State) : Option HeldItem := s.wc.hold.find? (·.pair == p)

/-- An item leaves the hold queue (R78). -/
def State.removeHeld (p : Pair) (s : State) : State :=
  { s with wc := { s.wc with hold := s.wc.hold.filter (·.pair != p) } }

/-- An item is placed at the young end of the queue, or keeps its place with new contents when it is
already there (R78, R85). -/
def State.placeHeld (it : HeldItem) (s : State) : State :=
  if (s.heldItem? it.pair).isSome then
    { s with wc := { s.wc with hold := s.wc.hold.map fun x => if x.pair == it.pair then it else x } }
  else { s with wc := { s.wc with hold := s.wc.hold ++ [it] } }

/-- The time an item has been held (R80). -/
def State.heldTime (it : HeldItem) (s : State) : Nat := s.sinceInit - it.holdStart

/-- The item's held time has reached its stream's hold limit as the record now holds it (R80). -/
def State.overLimit (it : HeldItem) (s : State) : Bool :=
  (s.stream it.stream).holdLimit ≤ s.heldTime it

/-- An item is answered with a status other than a release to memory, and leaves the queue if it was
held; a member's answer other than OK dooms its epoch, and the commit condition is tested (R34, R36). -/
def State.answerItem (it : HeldItem) (st : WriteStatus) (s : State) : State :=
  let s := (s.answerWrite it.pair st).removeHeld it.pair
  if it.isMember then (s.doom it.stream).testCommit it.stream else s

/-- The expiry of a held item as one act (R81). -/
def State.expireItem (it : HeldItem) (s : State) : State :=
  let s := (s.answerWrite it.pair .refused).removeHeld it.pair
  let s := if it.isMember then s.doom it.stream else s
  let s := s.raise ⟨.holdExpired, some it.stream, it.epoch, it.line?, none, .reason it.reason⟩
  s.testCommit it.stream

/-- An item's path ends in a hold with a reason (R78). `held` says that it was already in the queue:
then it expires at once when it comes from a reason without limit and its time is over (R80). -/
def State.holdItem (held : Bool) (it : HeldItem) (epoch : Option EpochNo) (reason : HoldReason)
    (s : State) : State :=
  let it' := { it with epoch := epoch, reason := reason }
  let s := s.placeHeld it'
  if held && !it.reason.limited && reason.limited && s.overLimit it' then s.expireItem it' else s

/-! ### Lookup, admission, forwarding (R8, R11, R12, R72 to R76, R83) -/

/-- Line order (R72): an older held write of the same source to the same line. -/
def State.lineOrdered (it : HeldItem) (line : LineAddr) (s : State) : Bool :=
  (s.wc.hold.takeWhile (·.pair != it.pair)).any fun x =>
    x.line? == some line && x.pair.source == it.pair.source

/-- Admission is granted (R11). -/
def State.admits (n : StreamId) (s : State) : Bool :=
  s.power.device == .ready && s.entryCount + 1 ≤ s.effectiveCeiling
    && s.streamEntries n + 1 ≤ (s.stream n).quota

/-- The entry a granted admission creates (R12). -/
def State.newEntry (n : StreamId) (line : LineAddr) (trigger : Pair) (s : State) : Entry where
  index := lowestFree 0 s.journal.entries
  line := line
  stream := n
  epoch := (s.stream n).epoch
  sequence := s.journal.counter
  body := .capturing trigger
  inFlight := 0
  strays := 0
  failures := 0

/-- A granted admission creates the entry, the write becomes its trigger, and the capture read is
placed in the issue queue (R12, R74). -/
def State.createEntry (it : HeldItem) (line : LineAddr) (s : State) : State :=
  let e := s.newEntry it.stream line it.pair
  let s := s.removeHeld it.pair
  let s := { s with journal := ⟨insertEntry e s.journal.entries, s.journal.counter + 1#32⟩ }
  s.enqueueRequest (.capture e.index line)

/-- Forwarding (R4, R28, R76): in-flight counts rise, the write leaves the hold queue and is placed
in the issue queue. -/
def State.forwardWrite (p : Pair) (n : StreamId) (e : Entry) (s : State) : State :=
  let s := s.removeHeld p
  let s := s.updEntry e.index fun e => { e with inFlight := e.inFlight + 1 }
  let s := s.updStream n fun r => { r with inFlight := r.inFlight + 1 }
  s.enqueueRequest (.forward p e.line e.index n e.epoch)

/-- A CONFLICT or ADMISSION outcome under the hold policy (R83): REFUSE refuses a write that is not
already held for one of the two reasons; every other write is held. -/
def State.applyPolicy (held : Bool) (it : HeldItem) (epoch : EpochNo) (reason : HoldReason)
    (s : State) : State :=
  let waiting := held && (it.reason == .conflict || it.reason == .admission)
  if (s.stream it.stream).policy = .refuse ∧ waiting = false then
    s.answerItem { it with epoch := some epoch } .refused
  else s.holdItem held it (some epoch) reason

/-- Line order, lookup with admission, and forwarding for a write that belongs to its stream's
current epoch (R72 to R76, Table 1-3). -/
def State.memberPath (held : Bool) (it : HeldItem) (line : LineAddr) (s : State) : State :=
  let epoch := (s.stream it.stream).epoch
  if s.lineOrdered it line then s.holdItem held it (some epoch) .lineOrder
  else
    match s.journal.atLine? line with
    | none =>
      if s.admits it.stream then s.createEntry it line
      else s.applyPolicy held it epoch .admission
    | some e =>
      if e.stream = it.stream ∧ e.epoch = epoch ∧ e.isIn .live = true then
        s.forwardWrite it.pair it.stream e
      else if e.stream = it.stream ∧ e.epoch = epoch ∧ e.isCapturing = true then
        s.holdItem held it (some epoch) .captureWait
      else s.applyPolicy held it epoch .conflict

/-- The path of a journaled write from epoch membership on (R70, R71). -/
def State.writePath (held : Bool) (it : HeldItem) (line : LineAddr) (s : State) : State :=
  if it.isMember then s.memberPath held it line
  else
    match (s.stream it.stream).state with
    | .closed => (s.openEpoch it.stream).memberPath held it line
    | .open => s.memberPath held it line
    | .committing | .rolling => s.holdItem held it none .epochWait
    | .abandoned => s.answerItem it .lost
    | .halted => s.answerItem it .refused

/-! ### Markers at the epoch controller (R31 to R33, R39, R49, R50, R86) -/

/-- An OPEN stream takes a marker (R32, R33): COMMIT moves it to COMMITTING and tests the commit
condition, ABORT moves it to ROLLING with cause MARK. -/
def State.keepMarker (n : StreamId) (mark : MarkerKind) (p : Pair) (s : State) : State :=
  match mark with
  | .commit =>
    (s.updStream n fun r =>
      { r with kept := some ⟨.commit, p⟩, state := .committing, age := r.age.stop s.now }).testCommit n
  | .abort =>
    (s.updStream n fun r => { r with kept := some ⟨.abort, p⟩ }).enterRolling n .mark

/-- A marker reaches the epoch controller, from the host port or handed back from the hold queue
(R86). -/
def State.takeMarker (held : Bool) (it : HeldItem) (mark : MarkerKind) (s : State) : State :=
  match (s.stream it.stream).state with
  | .closed => s.answerItem it .ok
  | .open => (s.removeHeld it.pair).keepMarker it.stream mark it.pair
  | .committing | .rolling => s.holdItem held it none .epochWait
  | .abandoned => (s.answerItem it .lost).giveNotice it.stream
  | .halted => s.answerItem it .refused

/-- An item's path, by its kind (R70, R86). -/
def State.itemPath (held : Bool) (it : HeldItem) (s : State) : State :=
  match it.kind with
  | .write line => s.writePath held it line
  | .marker mark => s.takeMarker held it mark

/-! ### Re-examination (R84, R85) -/

/-- An item reached in a pass runs its path again if it is still held (R85). -/
def State.reexamine (p : Pair) (s : State) : State :=
  match s.heldItem? p with
  | some it => s.itemPath true it
  | none => s

/-- One pass over the hold queue, oldest first (R85). -/
def State.pass (s : State) : State := (s.wc.hold.map (·.pair)).foldl (fun s p => s.reexamine p) s

/-- Passes run until none is owed: a pass that itself frees an entry or moves a stream is followed
by another (R84, LOG 11). -/
def State.passWhile : Nat → State → State
  | 0, s => { s with wc := { s.wc with passDue := false } }
  | fuel + 1, s =>
    if s.wc.passDue then
      (({ s with wc := { s.wc with passDue := false } }).pass).passWhile fuel
    else s

/-- The pass owed at the end of an act (R84). Each further pass follows one in which a held item
left the queue, so the queue's length and two rounds suffice. -/
def State.runPasses (s : State) : State := s.passWhile (s.wc.hold.length + 2)

/-! ### Acts over many items -/

/-- Every item in a list that is still held is answered LOST and removed, its epoch doomed if it was
a member (R75, R90). -/
def State.loseItem (it : HeldItem) (s : State) : State :=
  let s := (s.answerWrite it.pair .lost).removeHeld it.pair
  if it.isMember then s.doom it.stream else s

/-- The items held with reason CAPTURE_WAIT on a line, in arrival order (R75). -/
def State.waitingOn (line : LineAddr) (s : State) : List HeldItem :=
  s.wc.hold.filter fun it => it.reason == .captureWait && it.line? == some line

/-- The items of stream `n` whose limited hold is over, in arrival order (R80). -/
def State.overdueItems (n : StreamId) (s : State) : List HeldItem :=
  s.wc.hold.filter fun it => it.stream == n && it.reason.limited && s.overLimit it

/-- The held items of stream `n` that stand at or beyond a newly set limit expire, in arrival order,
each that is still held when its turn comes (R80). -/
def State.expireOverdue (n : StreamId) (s : State) : State :=
  (s.overdueItems n).foldl (fun s it =>
    match s.heldItem? it.pair with
    | some it' => (s.expireItem it').owePass
    | none => s) s

end Sys2Proof.Machine
end

