-- ==== Sys2Proof/Machine/PortOutcomes.lean ====
section
/-! DEFINITION. What the requesting blocks do with the outcome of a memory request: captures (R15,
R16, R75), forwarded writes (R77), restores (R99, R103) and late responses (R120). -/

namespace Sys2Proof.Machine

/-! ### Captures -/

/-- The entry's epoch can still use the capture (R15): its stream is OPEN or COMMITTING with that
epoch current, and the device is in READY. -/
def State.captureUseful (e : Entry) (s : State) : Bool :=
  let r := s.stream e.stream
  (r.state == .open || r.state == .committing) && r.epoch == e.epoch && s.power.device == .ready

/-- The trigger of a capture that ended too late is answered LOST, which dooms its epoch (R15, R34). -/
def State.loseTrigger (n : StreamId) (trigger : Pair) (s : State) : State :=
  (s.answerWrite trigger .lost).doom n

/-- A capture ended after its epoch entered ROLLING, or in DRAIN (R15, R16, R75). -/
def State.captureLate (e : Entry) (trigger : Pair) (s : State) : State :=
  (((s.freeEntry e.index).loseTrigger e.stream trigger).testCommit e.stream).runEngine

/-- A write held with reason CAPTURE_WAIT is forwarded, or a trigger is, to the entry as it then
stands (R75, R76). -/
def State.forwardTo (i : Nat) (n : StreamId) (p : Pair) (s : State) : State :=
  match s.entry? i with
  | some e => s.forwardWrite p n e
  | none => s

/-- A capture answered OK (R15, R75). -/
def State.captureOk (i : Nat) (data : Block) (s : State) : State :=
  match s.entry? i with
  | none => s
  | some e =>
    match e.body with
    | .holding _ _ => s
    | .capturing trigger =>
      if s.captureUseful e then
        let s := s.updEntry i fun e => { e with body := .holding .live data }
        let s := s.forwardTo i e.stream trigger
        ((s.waitingOn e.line).foldl (fun s it => s.forwardTo i e.stream it.pair) s).owePass
      else s.captureLate e trigger

/-- A capture answered ERROR or timed out (R16, R75). -/
def State.captureFailed (i : Nat) (s : State) : State :=
  match s.entry? i with
  | none => s
  | some e =>
    match e.body with
    | .holding _ _ => s
    | .capturing trigger =>
      if s.captureUseful e then
        let s := (((s.freeEntry i).answerWrite trigger .memory).doom e.stream)
        let s := (s.waitingOn e.line).foldl (fun s it => s.loseItem it) s
        s.testCommit e.stream
      else s.captureLate e trigger

/-! ### Forwarded writes (R77) -/

/-- A forwarded write ends: its counts fall, it is answered, a status other than OK dooms its epoch,
and the commit condition and the settle condition are tested again (R36, R77, R95). -/
def State.forwardEnd (p : Pair) (i : Nat) (n : StreamId) (st : WriteStatus) (addStray : Bool)
    (s : State) : State :=
  let s := s.updEntry i fun e =>
    { e with inFlight := e.inFlight - 1, strays := if addStray then e.strays + 1 else e.strays }
  let s := s.updStream n fun r => { r with inFlight := r.inFlight - 1 }
  let s := s.answerWrite p st
  let s := if st = .ok then s else s.doom n
  (s.testCommit n).runEngine

/-! ### Restores (R18, R99, R103) -/

/-- The restore of an entry gives its position back (R97). -/
def State.freePosition (i : Nat) (s : State) : State :=
  { s with engine := { s.engine with
      positions := s.engine.positions.eraseP fun q => q.entry == i } }

/-- The current job counts a restore write of its own answered OK (R94). -/
def Engine.countRestored (g : Engine) : Engine :=
  match g.queue with
  | [] => g
  | j :: rest => { g with queue := { j with restored := j.restored + 1 } :: rest }

/-- A job restore answered OK counts in its job; in DRAIN the tallies count too (Table 5-2). -/
def State.countRestoreOk (linger : Bool) (s : State) : State :=
  let g := if linger then s.engine else s.engine.countRestored
  let g :=
    if s.power.device = .drain then
      if linger then { g with lingerTally := g.lingerTally + 1 }
      else { g with restoredTally := g.restoredTally + 1 }
    else g
  { s with engine := g }

/-- A restore write answered OK (R18, R99). -/
def State.restoreOk (e : Entry) (linger : Bool) (s : State) : State :=
  let s := (s.freePosition e.index).countRestoreOk linger
  let s :=
    if e.strays = 0 ∨ s.power.device = .drain then s.freeEntry e.index
    else s.updEntry e.index (Entry.moveTo .linger)
  s.runEngine

/-- An entry enters FAILED: its restore failures count rises, saturating at 255 (R6). -/
def Entry.fail (e : Entry) : Entry :=
  { (e.moveTo .failed) with failures := min (e.failures + 1) 255 }

/-- A failed restore in DRAIN is counted (R104). -/
def State.countRestoreFailed (s : State) : State :=
  if s.power.device = .drain then
    { s with engine := { s.engine with failedTally := s.engine.failedTally + 1 } }
  else s

/-- A failed linger re-restore acts on the entry's stream by its state (R103). -/
def State.lingerFailed (e : Entry) (s : State) : State :=
  match (s.stream e.stream).state with
  | .closed | .abandoned =>
    (s.updStream e.stream fun r => { r with state := .halted, noticeOwed := true }).raise
      ⟨.streamHalted, some e.stream, none, some e.line, some e.index, .none⟩
  | .open | .committing =>
    if s.power.device = .drain then s.enterRolling e.stream .drain
    else (s.doom e.stream).enterRolling e.stream .doomed
  | .rolling | .halted => s

/-- A restore write answered ERROR or timed out (R18, R99). -/
def State.restoreFailed (e : Entry) (linger : Bool) (s : State) : State :=
  let s := ((s.freePosition e.index).updEntry e.index Entry.fail).countRestoreFailed
  let s := if linger then s.lingerFailed e else s
  s.runEngine

/-- A restore write's outcome reaches the engine. -/
def State.restoreEnd (i : Nat) (linger good : Bool) (s : State) : State :=
  match s.entry? i with
  | none => s
  | some e => if good then s.restoreOk e linger else s.restoreFailed e linger

/-! ### Outcomes by request kind (R116, R117, R119) -/

/-- An answer OK is handed to the requesting block (R116). -/
def State.handOk (r : Request) (data : Block) (s : State) : State :=
  match r with
  | .hostRead p _ => s.answerRead p .ok data
  | .passWrite p _ => s.answerWrite p .ok
  | .capture i _ => s.captureOk i data
  | .forward p _ i n _ => s.forwardEnd p i n .ok false
  | .restore i _ linger => s.restoreEnd i linger true

/-- An answer ERROR, or a timeout, is handed to the requesting block; a timed-out forwarded write
becomes a stray (R117, R119). -/
def State.handBad (r : Request) (timeout : Bool) (s : State) : State :=
  match r with
  | .hostRead p _ => s.answerRead p .memory zeroBlock
  | .passWrite p _ => s.answerWrite p .memory
  | .capture i _ => s.captureFailed i
  | .forward p _ i n _ => s.forwardEnd p i n .memory timeout
  | .restore i _ linger => s.restoreEnd i linger false

/-- The record of MEMORY_ERROR or MEMORY_TIMEOUT for a request (R123), read before its outcome is
handed on. -/
def State.requestRecord (kind : EventKind) (t : Nat) (r : Request) (s : State) : EventRec :=
  match r with
  | .hostRead _ l => ⟨kind, none, none, some l, none, .request .read t⟩
  | .passWrite _ l => ⟨kind, none, none, some l, none, .request .pass t⟩
  | .forward _ l i n ep => ⟨kind, some n, some ep, some l, some i, .request .forward t⟩
  | .capture i l =>
    ⟨kind, (s.entry? i).map (·.stream), (s.entry? i).map (·.epoch), some l, some i,
      .request .capture t⟩
  | .restore i l linger =>
    ⟨kind, (s.entry? i).map (·.stream), (s.entry? i).map (·.epoch), some l, some i,
      .request (if linger then .lingerRestore else .restore) t⟩

/-- The tie a timed-out request leaves: forwarded writes alone leave one (R119). -/
def Request.tie : Request → Option Tie
  | .forward _ l i _ _ => some ⟨i, l⟩
  | .hostRead _ _ | .passWrite _ _ | .capture _ _ | .restore _ _ _ => none

/-! ### Late responses (R120) -/

/-- An entry joins the young end of the linger-pending list; the list holds no duplicates (R102). -/
def Engine.joinLinger (i : Nat) (g : Engine) : Engine :=
  if g.lingerPending.contains i then g else { g with lingerPending := g.lingerPending ++ [i] }

/-- A late arrival reaches the entry named in its tie: strays falls by one, and a LINGER entry whose
strays reach 0 joins the linger-pending list (R5, R102, R120). -/
def State.lateArrival (tie : Tie) (s : State) : State :=
  let s := s.updEntry tie.entry fun e => { e with strays := e.strays - 1 }
  match s.entry? tie.entry with
  | some e =>
    if e.isIn .linger ∧ e.strays = 0 then
      ({ s with engine := s.engine.joinLinger e.index }).runEngine
    else s
  | none => s

end Sys2Proof.Machine
end

