-- ==== Sys2Proof/Config.lean ====
section
/-! DEFINITION. The free values of the model: what a program or an erase of the outcome store that
is cut short leaves behind (R156, R157), and whether a supply reported good has sagged when it is read
(R140). Each is an opaque constant applied to the counter `State.freeCount`, so that nothing can be proved
of the value drawn. -/

namespace Sys2Proof

/-- How a slot stands whose programming was cut by a loss of supply (R156). -/
inductive ProgramCut where
  | erased
  | invalid
  | valid
  deriving DecidableEq, Repr, Inhabited

/-- Free value (R156): how far the cut programming had gone. -/
opaque Config.programCut : Nat → ProgramCut

/-- Free value (R157): whether an erase was cut during its first stage. -/
opaque Config.eraseCutInFirstStage : Nat → Bool

/-- Free value (R157): whether the cut erase had come to slot `j` of the sector, in the stage it was
cut in. -/
opaque Config.eraseCutReached : Nat → Nat → Bool

/-- Free value (R156, R157): the bytes a disturbed slot is left with. Only their being INVALID is
used (`Slots.disturbed`). -/
opaque Config.disturbedBytes : Nat → Nat → Block

/-- Free value (R140, LOG 30): whether the supply, reported good, has fallen below the good level since,
without a trip. No command tells of that. -/
opaque Config.supplySagged : Nat → Bool

end Sys2Proof
end

