-- ==== Sys2Proof/Machine/Formats.lean ====
section
/-! DEFINITION. Byte orders, the CRC-8, the codes of Table 11-3 and Table 11-4, event records and
outcome slots (R167, R178, R179, R180). -/

namespace Sys2Proof.Machine

/-! ### Bytes (R178) -/

/-- The `k` bytes of a value, most significant first (R178). -/
def bytesOf : Nat → Nat → List Byte
  | 0, _ => []
  | k + 1, n => BitVec.ofNat 8 (n / 256 ^ k) :: bytesOf k n

/-- The value of bytes sent most significant first (R178). -/
def valueOf (bs : List Byte) : Nat := bs.foldl (fun n b => n * 256 + b.toNat) 0

/-- A signed value in two's complement, two bytes (R178). -/
def signedBytes (i : Int) : List Byte := bytesOf 2 (BitVec.ofInt 16 i).toNat

/-- Yes and no are 01h and 00h (R178). -/
def yesNo (b : Bool) : Byte := if b then 1#8 else 0#8

/-! ### The check (R167) -/

/-- One bit of the CRC-8 with polynomial x^8 + x^2 + x + 1, most significant bit first (R167). -/
def crcBit (c : Byte) : Byte := if c.getLsbD 7 then (c <<< 1) ^^^ 0x07#8 else c <<< 1

/-- One byte of the CRC-8. -/
def crcByte (c b : Byte) : Byte :=
  crcBit (crcBit (crcBit (crcBit (crcBit (crcBit (crcBit (crcBit (c ^^^ b))))))))

/-- The CRC-8 over a run of bytes, initial value 00h (R167). -/
def crc8 (bs : List Byte) : Byte := bs.foldl crcByte 0#8

/-! ### Codes (Table 11-3, Table 11-4) -/

/-- Response status codes (Table 11-3). -/
def RespStatus.code : RespStatus → Byte
  | .ok => 0x00#8
  | .accepted => 0x01#8
  | .badCheck => 0x80#8
  | .badCommand => 0x81#8
  | .badLength => 0x82#8
  | .badValue => 0x83#8
  | .busy => 0x84#8
  | .notNow => 0x85#8
  | .noEpoch => 0x86#8
  | .empty => 0x87#8

/-- Device state codes. -/
def DeviceState.code : DeviceState → Byte
  | .off => 0#8
  | .init => 1#8
  | .ready => 2#8
  | .drain => 3#8
  | .spent => 4#8

/-- Drain cause and record cause codes. -/
def DrainCause.code : DrainCause → Byte
  | .none => 0#8
  | .power => 1#8
  | .pfail => 2#8
  | .reset => 3#8
  | .restart => 4#8

/-- Drain phase codes. -/
def DrainPhase.code : DrainPhase → Byte
  | .none => 0#8
  | .settling => 1#8
  | .rollingBack => 2#8
  | .recording => 3#8

/-- Meter state codes. -/
def MeterMode.code : MeterMode → Byte
  | .stopped => 0#8
  | .calibrating _ => 1#8
  | .running _ => 2#8

/-- Stream state codes. -/
def StreamState.code : StreamState → Byte
  | .closed => 0#8
  | .open => 1#8
  | .committing => 2#8
  | .rolling => 3#8
  | .abandoned => 4#8
  | .halted => 5#8

/-- Loss cause codes; NONE is 0. -/
def RollCause.code : RollCause → Byte
  | .mark => 1#8
  | .doomed => 2#8
  | .mgmt => 3#8
  | .line => 4#8
  | .aged => 5#8
  | .drain => 6#8

/-- The loss cause of a stream record. -/
def lossCode : Option RollCause → Byte
  | none => 0#8
  | some c => c.code

/-- Kept marker codes. -/
def keptCode : Option KeptMarker → Byte
  | none => 0#8
  | some ⟨.commit, _⟩ => 1#8
  | some ⟨.abort, _⟩ => 2#8

/-- Hold policy codes. -/
def HoldPolicy.code : HoldPolicy → Byte
  | .wait => 0#8
  | .refuse => 1#8

/-- Window kind codes. -/
def WindowKind.code : WindowKind → Byte
  | .journal => 0#8
  | .block => 1#8

/-- Entry state codes; FREE is 0. -/
def entryCode : Option Entry → Byte
  | none => 0#8
  | some e =>
    match e.body with
    | .capturing _ => 1#8
    | .holding .live _ => 2#8
    | .holding .restoring _ => 3#8
    | .holding .linger _ => 4#8
    | .holding .failed _ => 5#8

/-- Hold reason codes. -/
def HoldReason.code : HoldReason → Byte
  | .captureWait => 0#8
  | .lineOrder => 1#8
  | .conflict => 2#8
  | .admission => 3#8
  | .epochWait => 4#8

/-- Memory request kind codes. -/
def RequestKind.code : RequestKind → Byte
  | .read => 0#8
  | .pass => 1#8
  | .capture => 2#8
  | .forward => 3#8
  | .restore => 4#8
  | .lingerRestore => 5#8

/-- Last-drain outcome codes. -/
def LastOutcome.code : LastOutcome → Byte
  | .none => 0#8
  | .complete => 1#8
  | .partialDrain => 2#8
  | .interrupted => 3#8
  | .unrecorded => 4#8

/-- Store operation codes. -/
def StoreOp.code : StoreOp → Byte
  | .idle => 0#8
  | .scanning => 1#8
  | .erasing _ _ => 2#8
  | .programming _ _ _ => 3#8

/-- The sector or slot number of the present operation, 0 when it has none (LOG 28). -/
def StoreOp.number : StoreOp → Nat
  | .idle | .scanning => 0
  | .erasing sector _ => sector.val
  | .programming slot _ _ => slot.val

/-- A source map entry: the stream, or 08h for NONE (R178). -/
def mapCode : Option StreamId → Byte
  | none => 0x08#8
  | some n => BitVec.ofNat 8 n.val

/-- The fault byte: bit 0 RAW, bit 1 OFFSET (R178), and 0 in bits 7 to 2 (LOG 35). -/
def faultByte (raw offset : Bool) : Byte :=
  (if raw then 1#8 else 0#8) ||| (if offset then 2#8 else 0#8)

/-- A sequence number, 0 when absent (R179; LOG 28). -/
def seqNat : Option (BitVec 32) → Nat
  | none => 0
  | some q => q.toNat

/-! ### Event records (R179) -/

/-- The detail bytes a kind uses (R179). -/
def Detail.bytes : Detail → List Byte
  | .none => []
  | .shortfall entries ceiling => bytesOf 2 entries ++ bytesOf 2 ceiling
  | .meterFault raw offset => [faultByte raw offset]
  | .cause c => [c.code]
  | .failedCount n => bytesOf 2 n
  | .reason r => [r.code]
  | .request k tag => [k.code, BitVec.ofNat 8 tag]
  | .program slot => [0x00#8, BitVec.ofNat 8 slot]
  | .erase sector => [0x01#8, BitVec.ofNat 8 sector]
  | .retryDone restored failed => [0x09#8] ++ bytesOf 2 restored ++ bytesOf 2 failed
  | .calibrateDone within offset =>
    [0x0D#8, match within with
      | .some true => 0x00#8
      | .some false => 0x01#8
      | .none => 0x02#8] ++ signedBytes offset
  | .restartDone seq restored failed =>
    [0x13#8] ++ bytesOf 4 seq.toNat ++ bytesOf 2 restored ++ bytesOf 2 failed
  | .initDone report => [report.outcome.code] ++ bytesOf 4 (seqNat report.seq) ++ [report.cause.code]

/-- Bytes filled up with 00h to a length (R179). -/
def padZero (n : Nat) (bs : List Byte) : List Byte := bs ++ List.replicate (n - bs.length) 0#8

/-- The presence byte of an event record: bit 0 stream, bit 1 epoch, bit 2 line, bit 3 entry (R179), and
0 in bits 7 to 4 (LOG 35). -/
def EventRec.presence (e : EventRec) : Byte :=
  (if e.stream.isSome then 1#8 else 0#8) ||| (if e.epoch.isSome then 2#8 else 0#8)
    ||| (if e.line.isSome then 4#8 else 0#8) ||| (if e.entry.isSome then 8#8 else 0#8)

/-- The 21 bytes of an event record (R179). -/
def EventRec.bytes (e : EventRec) : List Byte :=
  [BitVec.ofNat 8 e.kind.position, e.presence, BitVec.ofNat 8 ((e.stream.map (·.val)).getD 0)]
    ++ bytesOf 2 ((e.epoch.map (·.toNat)).getD 0)
    ++ bytesOf 5 ((e.line.map (·.toNat)).getD 0)
    ++ bytesOf 2 (e.entry.getD 0)
    ++ padZero 9 e.detail.bytes

/-! ### Outcome slots (R155, R180) -/

/-- An open-epoch item of a BEGIN record (R146, R155). -/
structure OpenItem where
  stream : StreamId
  epoch : EpochNo
  entries : Nat
  deriving DecidableEq, Repr

/-- The four bytes of an open-epoch item (R180): the stream in bits 15 to 13 and the stream entry
count in bits 9 to 0 of the first word, with 0 in bits 12 to 10 (LOG 35), and the epoch number in the
second. -/
def OpenItem.bytes (i : OpenItem) : List Byte :=
  bytesOf 2 (i.stream.val * 2 ^ 13 + i.entries) ++ bytesOf 2 i.epoch.toNat

/-- Bytes as a block: the first 64, filled up with FFh (R180). -/
def blockOf (bs : List Byte) : Block :=
  ⟨((bs ++ List.replicate 64 0xFF#8).take 64).toArray, by simp⟩

/-- A record's bytes as a whole slot: FFh after the last field up to byte 62, and the check over bytes
0 to 62 in byte 63 (R180). -/
def sealSlot (fields : List Byte) : Block :=
  let body := (fields ++ List.replicate 63 0xFF#8).take 63
  blockOf (body ++ [crc8 body])

/-- A BEGIN record's slot (R155, R180). -/
def beginSlot (seq : BitVec 32) (cause : DrainCause) (entries : Nat) (items : List OpenItem) : Block :=
  sealSlot ([0x10#8 ||| cause.code] ++ bytesOf 4 seq.toNat ++ bytesOf 2 entries
    ++ [BitVec.ofNat 8 items.length] ++ (items.map OpenItem.bytes).flatten)

/-- An END record's slot (R155, R180). -/
def endSlot (seq : BitVec 32) (commits restored failed lingers : Nat) : Block :=
  sealSlot ([0x20#8] ++ bytesOf 4 seq.toNat ++ [BitVec.ofNat 8 commits] ++ bytesOf 2 restored
    ++ bytesOf 2 failed ++ bytesOf 2 lingers)

/-- The first byte holds a BEGIN record's kind and a cause code from 1h to 4h (R180). -/
def isBeginByte (b : Byte) : Bool := 0x11#8 ≤ b && b ≤ 0x14#8

/-- The state the scan gives a slot, by the first case of R180 that fits. -/
def judgeSlot (b : Block) : SlotState :=
  if b.toList.all (· == 0xFF#8) then .erased
  else if b[63] == crc8 (b.toList.take 63)
      && ((isBeginByte b[0] && b[7] ≤ 8#8) || b[0] == 0x20#8) then .valid
  else .invalid

/-- What the store reads in a VALID slot for its own decisions (R155, R159, R161). -/
structure SlotRecord where
  slot : Fin 64
  isEnd : Bool
  seq : BitVec 32
  cause : DrainCause
  failed : Nat
  items : Nat
  deriving DecidableEq, Repr

/-- The cause code of a BEGIN record (Table 11-4). -/
def causeOfCode (b : Byte) : DrainCause :=
  if b = 1#8 then .power else if b = 2#8 then .pfail else if b = 3#8 then .reset
  else if b = 4#8 then .restart else .none

/-- The record of a VALID slot (R180). -/
def readSlot (slot : Fin 64) (b : Block) : SlotRecord where
  slot := slot
  isEnd := b[0] == 0x20#8
  seq := BitVec.ofNat 32 (valueOf [b[1], b[2], b[3], b[4]])
  cause := causeOfCode (b[0] &&& 0x0F#8)
  failed := valueOf [b[8], b[9]]
  items := b[7].toNat

/-- Record `a` is newer than record `b`: by number modulo 2^32, and of one number the END (R155). -/
def SlotRecord.newerThan (a b : SlotRecord) : Bool :=
  if a.seq = b.seq then a.isEnd && !b.isEnd
  else decide ((a.seq - b.seq).toNat < 2 ^ 31)

/-! ### Bus fields (R177, Table 11-1) -/

/-- Host write response status codes (Table 11-1). -/
def WriteStatus.code : WriteStatus → BitVec 2
  | .ok => 0#2
  | .refused => 1#2
  | .memory => 2#2
  | .lost => 3#2

/-- Host read response status codes (Table 11-1). -/
def ReadStatus.code : ReadStatus → BitVec 1
  | .ok => 0#1
  | .memory => 1#1

/-- The kind field of a memory request: 0 for a read, 1 for a write (Table 11-1). -/
def BusRequest.kindCode (r : BusRequest) : BitVec 1 := if r.write.isSome then 1#1 else 0#1

end Sys2Proof.Machine

namespace Sys2Proof

/-- Host write mark codes (Table 11-1). -/
def Mark.code : Mark → BitVec 2
  | .none => 0#2
  | .commit => 1#2
  | .abort => 2#2
  | .reserved => 3#2

/-- The mark a write request's two mark bits carry (Table 11-1). -/
def Mark.ofCode (c : BitVec 2) : Mark :=
  if c = 0#2 then .none else if c = 1#2 then .commit else if c = 2#2 then .abort else .reserved

/-- Memory response status codes (Table 11-1). -/
def MemStatus.code : MemStatus → BitVec 1
  | .ok => 0#1
  | .error => 1#1

/-- The status a memory response's status bit carries (Table 11-1). -/
def MemStatus.ofCode (c : BitVec 1) : MemStatus := if c = 0#1 then .ok else .error

end Sys2Proof
end

