-- ==== Sys2Proof/Machine/StoreOps.lean ====
section
/-! DEFINITION. The outcome store's shared operations (chapter 9): reading the slot table, erasing,
preparation at INIT, programming, and operations cut short. -/

namespace Sys2Proof.Machine

/-! ### Slots, sectors and the ring (R154) -/

/-- The 64 slots in order. -/
def allSlots : List (Fin 64) :=
  (List.range 64).filterMap fun i => if h : i < 64 then some ⟨i, h⟩ else none

/-- The four sectors in order. -/
def allSectors : List (Fin 4) := [0, 1, 2, 3]

/-- The sector a slot lies in (R154). -/
def sectorOf (slot : Fin 64) : Fin 4 := ⟨slot.val / 16, by omega⟩

/-- The slot number of place `j` of a sector (R154). -/
def slotNumber (sector : Fin 4) (j : Nat) : Nat := 16 * sector.val + j

/-- The first slot of a sector. -/
def firstSlot (sector : Fin 4) : Fin 64 := ⟨16 * sector.val, by omega⟩

/-- The places of a sector. -/
def sectorPlaces : List Nat := List.range 16

/-- The state of a slot in the slot table; `none` while the table is empty. -/
def Store.slotState (slot : Fin 64) (st : Store) : Option SlotState := st.table[slot.val]?

/-- The slots of a sector in the table. -/
def Store.sectorStates (sector : Fin 4) (st : Store) : List SlotState :=
  (st.table.drop (16 * sector.val)).take 16

/-- How many slots the table gives a state (R163). -/
def Store.countSlots (x : SlotState) (st : Store) : Nat := st.table.count x

/-! ### Records (R155, R162) -/

/-- The VALID records of the slot table, in slot order. -/
def Store.records (st : Store) : List SlotRecord :=
  allSlots.filterMap fun i =>
    if st.slotState i = some .valid then some (readSlot i st.slots[i]) else none

/-- The k-th newest VALID record (R155, R162): the one with `k` newer records. -/
def Store.kthNewest (k : Nat) (st : Store) : Option SlotRecord :=
  st.records.find? fun r => (st.records.filter (·.newerThan r)).length == k

/-- The newest VALID record. -/
def Store.newest (st : Store) : Option SlotRecord := st.kthNewest 0

/-- The cause of a drain: from the BEGIN of its number, NONE when that is not VALID (R161). -/
def Store.causeOf (seq : BitVec 32) (st : Store) : DrainCause :=
  match st.records.find? fun r => !r.isEnd && r.seq == seq with
  | some r => r.cause
  | none => .none

/-- The last-drain report of a usable store at preparation (R161). -/
def Store.reportOf (st : Store) : LastDrain :=
  match st.newest with
  | none => ⟨.none, none, .none⟩
  | some r =>
    ⟨if r.isEnd then (if r.failed = 0 then .complete else .partialDrain) else .interrupted,
      some r.seq, st.causeOf r.seq⟩

/-- The report of an unusable store: UNRECORDED with power control's drain cause (R161). -/
def unrecordedReport (cause : DrainCause) : LastDrain := ⟨.unrecorded, none, cause⟩

/-! ### Erasing (R157) -/

/-- A sector's 16 places in the table get new states. -/
def setTable (sector : Fin 4) (f : Nat → SlotState) (table : List SlotState) : List SlotState :=
  sectorPlaces.foldl (fun t j => t.set (slotNumber sector j) (f j)) table

/-- A sector's 16 slots get new contents. -/
def setSector (sector : Fin 4) (f : Nat → Block) (slots : Vector Block 64) : Vector Block 64 :=
  sectorPlaces.foldl (fun v j => v.setIfInBounds (slotNumber sector j) (f j)) slots

/-- An erase begins: from its start the sector holds no VALID record (R157, R162, LOG 17). -/
def State.beginErase (sector : Fin 4) (why : EraseWhy) (s : State) : State :=
  { s with store := { s.store with
      op := .erasing sector why
      table := setTable sector (fun _ => .invalid) s.store.table } }

/-! ### Preparation (R158, R159) -/

/-- A sector is torn: no VALID slot, and at least one slot that is not ERASED (R158). -/
def Store.torn (st : Store) (sector : Fin 4) : Bool :=
  !(st.sectorStates sector).contains .valid && (st.sectorStates sector).any (· != .erased)

/-- The start point: the slot after the newest VALID record, or slot 0 (R159 step 1). -/
def Store.startPoint (st : Store) : Fin 64 :=
  match st.newest with
  | some r => r.slot + 1
  | none => 0

/-- The first ERASED slot at or after a slot in ring order (R159 step 2). -/
def Store.firstErased (start : Fin 64) (st : Store) : Option (Fin 64) :=
  (allSlots.map (start + ·)).find? fun i => st.slotState i == some .erased

/-- Step 5 of preparation (R159): the number after the newest VALID record's, or 0. -/
def Store.nextSeq (st : Store) : BitVec 32 :=
  match st.newest with
  | some r => r.seq + 1#32
  | none => 0#32

/-- Steps 5 and 6 of preparation: sequence number and report; the store's work at INIT is over
(R159). -/
def State.finishPreparation (s : State) : State :=
  { s with store := { s.store with
      drainSeq := s.store.nextSeq, report := s.store.reportOf, op := .idle } }

/-- Step 4 of preparation: room for two records from the next slot on, or an erase of the sector
following the next slot's (R159). -/
def State.prepareRoom (s : State) : State :=
  if s.store.slotState (s.store.next + 1) = some .erased then s.finishPreparation
  else s.beginErase (sectorOf s.store.next + 1) .roomForTwo

/-- Steps 1 to 3 of preparation (R159). -/
def State.prepareRing (s : State) : State :=
  match s.store.firstErased s.store.startPoint with
  | some i => ({ s with store := { s.store with next := i } }).prepareRoom
  | none =>
    let sector := match s.store.newest with
      | some r => sectorOf r.slot + 1
      | none => 0
    s.beginErase sector .noErasedSlot

/-- After the scan and after each repair: the lowest-numbered torn sector is erased (LOG 33), or the ring
is prepared (R158). -/
def State.repairOrPrepare (s : State) : State :=
  match allSectors.find? s.store.torn with
  | some sector => s.beginErase sector .repair
  | none => ({ s with store := { s.store with op := .idle } }).prepareRing

/-- The scan ends: the slot table is rebuilt from the slots (R158, R180). -/
def State.endScan (s : State) : State :=
  ({ s with store := { s.store with table := s.store.slots.toList.map judgeSlot } }).repairOrPrepare

/-- An erase ends with its verification (R157, R158, R159): good, preparation goes on; failed, the
store becomes unusable, STORE_FAULT is raised, and after step 3 or 4 the number is still set, the next
slot staying where it was (LOG 34). -/
def State.endErase (sector : Fin 4) (why : EraseWhy) (readBack : Vector Block 16) (s : State) : State :=
  let contents := fun j => (readBack[j]?).getD erasedBlock
  let s := { s with store := { s.store with
    slots := setSector sector contents s.store.slots
    table := setTable sector (fun j => judgeSlot (contents j)) s.store.table
    op := .idle } }
  if readBack.toList.all (· == erasedBlock) then
    match why with
    | .repair => s.repairOrPrepare
    | .noErasedSlot => ({ s with store := { s.store with next := firstSlot sector } }).prepareRoom
    | .roomForTwo => s.finishPreparation
  else
    let s := { s with store := { s.store with
      usable := false
      drainSeq := match why with
        | .repair => s.store.drainSeq
        | .noErasedSlot | .roomForTwo => s.store.nextSeq
      report := unrecordedReport s.power.cause } }
    s.raise ⟨.storeFault, none, none, none, none, .erase sector.val⟩

/-! ### Programming (R156) -/

/-- A record is handed to the store: a usable store programs it into the next slot, an unusable one
refuses it at once, writing nothing (R156). -/
def State.programRecord (isEnd : Bool) (bytes : Block) (s : State) : State :=
  if s.store.usable then
    { s with store := { s.store with op := .programming s.store.next isEnd bytes } }
  else s

/-- Programming and verification end (R156). The verification compares the whole slot with the record handed
over (LOG 37). -/
def State.endProgram (slot : Fin 64) (bytes readBack : Block) (s : State) : State :=
  let good := readBack == bytes
  let st := { s.store with
    slots := s.store.slots.set slot readBack
    table := s.store.table.set slot (if good then .valid else .invalid)
    op := .idle }
  if good then { s with store := { st with next := slot + 1 } }
  else
    ({ s with store := { st with usable := false } }).raise
      ⟨.storeFault, none, none, none, none, .program slot.val⟩

/-! ### Operations cut short (R156, R157, R158) -/

/-- A disturbed slot: free bytes that read INVALID (R157, LOG 8). -/
def disturbedBlock (k j : Nat) : Block :=
  let b := Config.disturbedBytes k j
  if judgeSlot b = .invalid then b else zeroBlock

/-- What place `j` of a sector is left with when its erase is cut: in the first stage INVALID or as it
stood, later ERASED or INVALID (R157, LOG 8). -/
def cutEraseBlock (k j : Nat) (before : Block) : Block :=
  if Config.eraseCutInFirstStage k then
    if Config.eraseCutReached k j then disturbedBlock k j else before
  else
    if Config.eraseCutReached k j then erasedBlock else disturbedBlock k j

/-- What the next slot is left with when its programming is cut (R156, LOG 8). -/
def cutProgramBlock (k : Nat) (bytes : Block) : Block :=
  match Config.programCut k with
  | .erased => erasedBlock
  | .invalid => disturbedBlock k 0
  | .valid => bytes

/-- The store's operation is cut short and becomes idle; the slot table is set anew by the next scan
(R156 to R158). -/
def State.cutStore (s : State) : State :=
  match s.store.op with
  | .idle => s
  | .scanning => { s with store := { s.store with op := .idle } }
  | .erasing sector _ =>
    { s with
      freeCount := s.freeCount + 1
      store := { s.store with
        op := .idle
        slots := setSector sector
          (fun j => cutEraseBlock s.freeCount j
            ((s.store.slots[slotNumber sector j]?).getD erasedBlock)) s.store.slots } }
  | .programming slot _ bytes =>
    { s with
      freeCount := s.freeCount + 1
      store := { s.store with
        op := .idle
        slots := s.store.slots.set slot (cutProgramBlock s.freeCount bytes) } }

end Sys2Proof.Machine
end

