-- ==== Sys2Proof/Machine/Drain.lean ====
section
/-! DEFINITION. Power control's drain (R144 to R150), the entry into SPENT with its settle timer
(R152), and the end of an act (R84, R147, R149). -/

namespace Sys2Proof.Machine

/-! ### SPENT (R152) -/

/-- The three conditions of leaving SPENT (R152). -/
def Pins.allHold (p : Pins) : Bool := p.supplyGood && p.pfailHigh && p.resetHigh

/-- The supply is read (R140, R143, R152). One that was reported good may have fallen below the good level
since without a trip, which a free value says; then it is not good until it rises above the level again
(LOG 30). -/
def State.readSupply (s : State) : State :=
  if s.pins.supplyGood then
    { s with
      pins := { s.pins with supplyGood := !Config.supplySagged s.freeCount }
      freeCount := s.freeCount + 1 }
  else s

/-- The settle timer starts from 0 where the three conditions hold, and is stopped where one fails (R152). -/
def State.startSettle (s : State) : State :=
  { s with power := { s.power with settleSince := if s.pins.allHold then some s.now else none } }

/-- The settle timer in SPENT: it starts from 0 when the three conditions come to hold, the supply being
read then, and stops when any fails (R152). -/
def State.settleCheck (s : State) : State :=
  if s.power.device = .spent then
    if s.pins.allHold then
      match s.power.settleSince with
      | some _ => s
      | none => s.readSupply.startSettle
    else s.startSettle
  else s

/-- After POR a meter still STOPPED when SPENT is entered begins its first survey (R133). -/
def State.wakeMeter (s : State) : State :=
  match s.meter.mode with
  | .stopped => s.startSurvey
  | .calibrating _ | .running _ => s

/-- The part enters SPENT with drain phase none (R143, R150, R152). -/
def State.enterSpent (s : State) : State :=
  ({ s with power := { s.power with
      device := .spent, initStep := none, phase := .none, settleSince := none } }).wakeMeter.settleCheck

/-! ### Records of a drain (R146, R150) -/

/-- The stream has an open-epoch item in the BEGIN record (R146). -/
def StreamState.inBegin : StreamState → Bool
  | .open | .committing | .rolling | .halted => true
  | .closed | .abandoned => false

/-- The open-epoch items, in ascending stream number (R146). -/
def State.openItems (s : State) : List OpenItem :=
  (allStreams.filter fun n => (s.stream n).state.inBegin).map fun n =>
    ⟨n, (s.stream n).epoch, s.streamEntries n⟩

/-- The BEGIN record of the present drain (R146). -/
def State.beginRecord (s : State) : Block :=
  beginSlot s.store.drainSeq s.power.cause s.entryCount s.openItems

/-- The END record of the present drain (R150). -/
def State.endRecord (s : State) : Block :=
  endSlot s.store.drainSeq s.power.commits s.engine.restoredTally s.engine.failedTally
    s.engine.lingerTally

/-- The drain's end (R150): SPENT is entered, and a RESTART drain raises COMMAND_DONE. -/
def State.endDrain (s : State) : State :=
  let restart := s.power.cause == DrainCause.restart
  let s := s.enterSpent
  if restart then
    let s := s.raise ⟨.commandDone, none, none, none, none,
      .restartDone s.store.drainSeq s.engine.restoredTally s.engine.failedTally⟩
    { s with mgmt := { s.mgmt with restartOut := false } }
  else s

/-- Phase RECORDING: the END record is handed over; refused by an unusable store, the part enters
SPENT at once (R150). -/
def State.record (s : State) : State :=
  let s := { s with power := { s.power with phase := .recording } }
  if s.store.usable then s.programRecord true s.endRecord else s.endDrain

/-! ### Phases of a drain (R147 to R149) -/

/-- A write slot holds the kept marker of some stream. -/
def State.holdsKept (x : WriteSlot) (s : State) : Bool :=
  !x.duplicate && allStreams.any fun n =>
    match (s.stream n).kept with
    | some k => k.pair == x.req.pair
    | none => false

/-- Phase SETTLING is over: every accepted request has been answered, kept markers excepted (R147). -/
def State.settlingOver (s : State) : Bool :=
  (s.host.writeSlots.all fun x => x.answered || s.holdsKept x) && s.host.readSlots.all (·.answered)

/-- A stream's age of opening: the opening counter's present value minus its opening number, modulo
2^32 (R148). -/
def State.openingAge (n : StreamId) (s : State) : Nat :=
  (s.epochs.opening - (s.stream n).opening).toNat

/-- A stream is put at its place, oldest epoch first (R148), behind a lower stream number of equal age
(LOG 32). -/
def insertOldest (s : State) (n : StreamId) : List StreamId → List StreamId
  | [] => [n]
  | m :: ms => if s.openingAge m < s.openingAge n then n :: m :: ms else m :: insertOldest s n ms

/-- The streams the handing-over moves to ROLLING, oldest epoch first (R148 step 2). -/
def State.streamsToRoll (s : State) : List StreamId :=
  (allStreams.filter fun n =>
    (s.stream n).state == .open || ((s.stream n).state == .committing && (s.stream n).doomed)).foldl
      (fun l n => insertOldest s n l) []

/-- The streams the handing-over retries, in ascending number (R148 step 3). -/
def State.streamsToRetry (s : State) : List StreamId :=
  allStreams.filter fun n => (s.stream n).state == .halted && !s.hasJob n

/-- The linger pass: every LINGER entry joins the linger-pending list, in ascending index order
(R104, R148 step 4). -/
def State.lingerPass (s : State) : State :=
  let lingering := s.journal.entries.filter fun e => e.isIn .linger
  { s with engine := lingering.foldl (fun g e => g.joinLinger e.index) s.engine }

/-- The handing-over of the remaining rollback work as one act (R148). -/
def State.handOver (s : State) : State :=
  let jobs := s.engine.queue.map fun j => { j with prior := true }
  let s := { s with
    power := { s.power with phase := .rollingBack }
    engine := { s.engine with queue := jobs } }
  let s := s.streamsToRoll.foldl (fun s n => s.enterRollingQueued n .drain) s
  let s := s.streamsToRetry.foldl (fun s n => s.enqueueJob .retry n .drain) s
  s.lingerPass.runEngine

/-- The rollback engine is finished (R107). -/
def Engine.finished (g : Engine) : Bool :=
  g.queue.isEmpty && g.lingerPending.isEmpty && g.positions.isEmpty

/-- The memory port has work outstanding (R125). -/
def MemPort.outstanding (m : MemPort) : Bool :=
  !m.queue.isEmpty || m.tags.toList.any fun t => match t with
    | .inUse _ _ _ => true
    | .free | .poisoned _ => false

/-- The store is programming a record (R163). -/
def StoreOp.isProgramming : StoreOp → Bool
  | .programming _ _ _ => true
  | .idle | .scanning | .erasing _ _ => false

/-- Phase ROLLING_BACK is over (R149). -/
def State.rollingBackOver (s : State) : Bool :=
  s.engine.finished && !s.port.outstanding && s.host.writeSlots.isEmpty && s.host.readSlots.isEmpty
    && !s.store.op.isProgramming

/-- Power control's test of SETTLING (R147). -/
def State.testSettling (s : State) : State :=
  if s.power.device = .drain ∧ s.power.phase = .settling ∧ s.settlingOver = true then s.handOver
  else s

/-- Power control's test of ROLLING_BACK (R149, LOG 12). -/
def State.testRollingBack (s : State) : State :=
  if s.power.device = .drain ∧ s.power.phase = .rollingBack ∧ s.rollingBackOver = true then s.record
  else s

/-- The end of an act: the pass it owes runs (R84), and in DRAIN power control tests its phases (R147,
R149). -/
def State.endAct (s : State) : State := s.runPasses.testSettling.testRollingBack.runPasses

/-! ### The beginning of a drain (R144 to R146) -/

/-- Every item in the hold queue is answered LOST, in arrival order, and removed (R90, R145). -/
def State.loseHeld (s : State) : State := s.wc.hold.foldl (fun s it => s.loseItem it) s

/-- A drain begins from READY with a cause: the state and tallies are set, the host port closes with
its consequences, and the BEGIN record is handed over (R104, R144, R145, R146). -/
def State.beginDrain (cause : DrainCause) (s : State) : State :=
  let s := { s with
    power := { s.power with
      device := .drain, cause := cause, phase := .settling, commits := 0
      resetRemembered := s.power.resetRemembered || cause == DrainCause.reset }
    engine := { s.engine with restoredTally := 0, failedTally := 0, lingerTally := 0 } }
  let s := s.loseHeld.abandonCalibration
  (s.programRecord false s.beginRecord).endAct

end Sys2Proof.Machine
end

