-- ==== Sys2Proof/Machine/Operands.lean ====
section
/-! DEFINITION. Operand forms: the class of a host write (R61, R62), the parts of a request frame
(R165, R167), and the ranges of command parameters (R169, R178). -/

namespace Sys2Proof.Machine

/-! ### Classification (R61, R62, R64) -/

/-- The page a line lies in: 64 lines a page (R64). -/
def pageOf (l : LineAddr) : Nat := l.toNat / 64

/-- The window is enabled and covers the line (R64). -/
def Window.covers (l : LineAddr) (w : Window) : Bool :=
  w.enabled && w.base ≤ pageOf l && pageOf l < w.base + w.count

/-- The enabled window a line lies in. -/
def Classifier.windowOf (l : LineAddr) (c : Classifier) : Option Window :=
  c.windows.toList.find? (·.covers l)

/-- The stream a source maps to; `none` for NONE (R65). -/
def Classifier.streamOf (src : SourceId) (c : Classifier) : Option StreamId := c.sourceMap[src]

/-- The classes of an accepted write (Table 3-3). -/
inductive WriteClass where
  | protocolError
  | marker (n : StreamId) (mark : MarkerKind)
  | untrackedMarker
  | nullWrite
  | passThrough
  | blocked
  | untracked
  | journaled (n : StreamId)
  deriving DecidableEq, Repr

/-- The byte mask enables no byte (R56). -/
def enablesNoByte (w : WriteReq) : Bool := w.mask == 0#64

/-- The class of a write whose mask enables a byte and whose mark is NONE: cases 3 to 6 of R62. -/
def Classifier.classifyByLine (w : WriteReq) (c : Classifier) : WriteClass :=
  match c.windowOf w.line with
  | none => .passThrough
  | some win =>
    match win.kind with
    | .block => .blocked
    | .journal =>
      match c.streamOf w.pair.source with
      | none => .untracked
      | some n => .journaled n

/-- The class of a marker by its source (R62 case 1). -/
def Classifier.classifyMarker (w : WriteReq) (mark : MarkerKind) (c : Classifier) : WriteClass :=
  match c.streamOf w.pair.source with
  | none => .untrackedMarker
  | some n => .marker n mark

/-- The class of a write (R61, R62): the protocol errors first, then the first case that fits. -/
def Classifier.classify (w : WriteReq) (duplicate : Bool) (c : Classifier) : WriteClass :=
  if duplicate then .protocolError
  else
    match w.mark with
    | .reserved => .protocolError
    | .commit => if enablesNoByte w then c.classifyMarker w .commit else .protocolError
    | .abort => if enablesNoByte w then c.classifyMarker w .abort else .protocolError
    | .none => if enablesNoByte w then .nullWrite else c.classifyByLine w

/-! ### Parameters (R169, R178) -/

/-- A stream number of a command: 0 to 7 (R169). -/
def streamParam (n : Byte) : Option StreamId := if h : n.toNat < 8 then some ⟨n.toNat, h⟩ else none

/-- A window number of a command: 0 to 7 (R169). -/
def windowParam (w : Byte) : Option (Fin 8) := if h : w.toNat < 8 then some ⟨w.toNat, h⟩ else none

/-- A source number of a command: 0 to 31 (R169). -/
def sourceParam (s : Byte) : Option SourceId := if h : s.toNat < 32 then some ⟨s.toNat, h⟩ else none

/-- The stream or NONE of SOURCE_MAP_SET: 0 to 7, or 08h for NONE (R65, R178). -/
def mapParam (m : Byte) : Option (Option StreamId) :=
  if m = 0x08#8 then some none else (streamParam m).map some

/-- A yes or no parameter (R178). -/
def yesNoParam (b : Byte) : Option Bool :=
  if b = 0#8 then some false else if b = 1#8 then some true else none

/-- A hold policy code (Table 11-4). -/
def policyParam (b : Byte) : Option HoldPolicy :=
  if b = 0#8 then some .wait else if b = 1#8 then some .refuse else none

/-- A window kind code (Table 11-4). -/
def kindParam (b : Byte) : Option WindowKind :=
  if b = 0#8 then some .journal else if b = 1#8 then some .block else none

/-- Pages of the 40-bit address space (R64). -/
def pageLimit : Nat := 2 ^ 28

/-- The range check of REGION_SET on base page and page count (R64 check 1). -/
def regionInRange (base count : Nat) : Bool :=
  1 ≤ count && count ≤ pageLimit && base < pageLimit && base + count ≤ pageLimit

/-- The configuration STREAM_SET gives a stream, when every value lies within its range (R26). -/
structure StreamConfig where
  policy : HoldPolicy
  holdLimit : Nat
  quota : Nat
  ageLimit : Nat
  deriving DecidableEq, Repr

/-- The values of STREAM_SET: policy code, hold limit 1 to 65535, quota 1 to 512, any age limit (R26,
Table 2-1). -/
def streamConfigParam (policy : Byte) (holdLimit quota ageLimit : BitVec 16) : Option StreamConfig :=
  match policyParam policy with
  | none => none
  | some p =>
    if 1 ≤ holdLimit.toNat ∧ 1 ≤ quota.toNat ∧ quota.toNat ≤ 512 then
      some ⟨p, holdLimit.toNat, quota.toNat, ageLimit.toNat⟩
    else none

/-- The values of METER_SET (R131). -/
def meterInRange (period cost cap : Nat) : Bool :=
  50 ≤ period && period ≤ 1000 && period % 10 == 0 && cost != 0 && cap ≤ 512

/-! ### Request frames (R165, R167) -/

/-- The most bytes a request frame collects (R165). -/
def maxFrameBytes : Nat := 43

/-- The bytes collected of those sent after the address: the first 43 (R165). -/
def collected (bytes : List Byte) : List Byte := bytes.take maxFrameBytes

/-- The frame is marked over-long when a byte came with 43 already collected (R165). -/
def overLong (bytes : List Byte) : Bool := maxFrameBytes < bytes.length

/-- The payload length of each command code, `none` for an unknown code (Table 11-2). -/
def payloadLength (code : Byte) : Option Nat :=
  match code.toNat with
  | 0x01 => some 1
  | 0x02 => some 1
  | 0x03 => some 8
  | 0x04 => some 1
  | 0x05 => some 11
  | 0x06 => some 0
  | 0x07 => some 2
  | 0x08 => some 1
  | 0x09 => some 2
  | 0x0A => some 3
  | 0x0B => some 3
  | 0x0C => some 8
  | 0x0D => some 0
  | 0x0E => some 1
  | 0x0F => some 1
  | 0x10 => some 0
  | 0x11 => some 2
  | 0x12 => some 2
  | 0x13 => some 0
  | _ => none

/-- Two payload bytes as a word, most significant first (R178). -/
def word16 (a b : Byte) : BitVec 16 := a ++ b

/-- Four payload bytes as a word, most significant first (R178). -/
def word32 (a b c d : Byte) : BitVec 32 := a ++ b ++ c ++ d

/-- A request frame past test 6 of R167: a command, or a RESUME whose mode is neither RETRY nor
DISCARD. -/
inductive FrameCommand where
  | command (i : Instr)
  | resumeBadMode (n : Byte)
  deriving DecidableEq, Repr

/-- The command of a code and payload of that code's length (Table 11-2). -/
def frameCommand (code : Byte) (payload : List Byte) : Option FrameCommand :=
  match code.toNat, payload with
  | 0x01, [p] => some (.command (.status p))
  | 0x02, [n] => some (.command (.streamInfo n))
  | 0x03, [n, p, h1, h0, q1, q0, a1, a0] =>
    some (.command (.streamSet n p (word16 h1 h0) (word16 q1 q0) (word16 a1 a0)))
  | 0x04, [w] => some (.command (.regionInfo w))
  | 0x05, [w, e, k, b3, b2, b1, b0, c3, c2, c1, c0] =>
    some (.command (.regionSet w e k (word32 b3 b2 b1 b0) (word32 c3 c2 c1 c0)))
  | 0x06, [] => some (.command .sourceMapInfo)
  | 0x07, [src, n] => some (.command (.sourceMapSet src n))
  | 0x08, [n] => some (.command (.abort n))
  | 0x09, [n, m] =>
    if m = 0#8 then some (.command (.resumeRetry n))
    else if m = 1#8 then some (.command (.resumeDiscard n))
    else some (.resumeBadMode n)
  | 0x0A, [n, s1, s0] => some (.command (.failedList n (word16 s1 s0)))
  | 0x0B, [e1, e0, h] => some (.command (.entryImage (word16 e1 e0) h))
  | 0x0C, [p1, p0, r1, r0, c1, c0, k1, k0] =>
    some (.command (.meterSet (word16 p1 p0) (word16 r1 r0) (word16 c1 c0) (word16 k1 k0)))
  | 0x0D, [] => some (.command .calibrate)
  | 0x0E, [l] => some (.command (.timeoutSet l))
  | 0x0F, [k] => some (.command (.outcome k))
  | 0x10, [] => some (.command .eventNext)
  | 0x11, [m1, m0] => some (.command (.flagsClear (word16 m1 m0)))
  | 0x12, [m1, m0] => some (.command (.alertMaskSet (word16 m1 m0)))
  | 0x13, [] => some (.command .restart)
  | _, _ => none

end Sys2Proof.Machine
end

