-- ==== Sys2Proof/Machine/Accept.lean ====
section
/-! DEFINITION. Acceptance at the host port (R58 to R62, R66): slots, pairs, the class of each write
and what is done with it at once, and requests that wait on the bus (R59, R67). -/

namespace Sys2Proof.Machine

/-- The host port has 32 slots of each kind (R59). -/
def slotsPerKind : Nat := 32

/-- A request answered at its acceptance takes a slot and its response is ready at once (R60, R61). -/
def State.refuseAtOnce (w : WriteReq) (duplicate : Bool) (s : State) : State :=
  { s with host := { s.host with
      writeSlots := s.host.writeSlots ++ [⟨w, duplicate, true⟩]
      writeResponses := s.host.writeResponses ++ [⟨w.pair, .refused, duplicate⟩] } }

/-- A write takes a slot and its pair joins the write set (R59, R60). -/
def State.takeWriteSlot (w : WriteReq) (s : State) : State :=
  { s with host := { s.host with writeSlots := s.host.writeSlots ++ [⟨w, false, false⟩] } }

/-- A read takes a slot and its pair joins the read set (R59, R60). -/
def State.takeReadSlot (r : ReadReq) (s : State) : State :=
  { s with host := { s.host with readSlots := s.host.readSlots ++ [⟨r, false, false⟩] } }

/-- A fresh item for write control or the epoch controller: not yet held, of no epoch (R71, R86). -/
def State.arrival (p : Pair) (kind : HeldKind) (n : StreamId) (s : State) : HeldItem :=
  ⟨p, kind, n, none, .epochWait, s.sinceInit⟩

/-- What is done at once with a write of each class (Table 3-3). -/
def State.actOnClass (w : WriteReq) (duplicate : Bool) (c : WriteClass) (s : State) : State :=
  match c with
  | .protocolError => s.refuseAtOnce w duplicate
  | .marker n mark =>
    let s := s.takeWriteSlot w
    s.takeMarker false (s.arrival w.pair (.marker mark) n) mark
  | .untrackedMarker | .blocked | .untracked => s.refuseAtOnce w false
  | .nullWrite => (s.takeWriteSlot w).answerWrite w.pair .ok
  | .passThrough => (s.takeWriteSlot w).enqueueRequest (.passWrite w.pair w.line)
  | .journaled n =>
    let s := s.takeWriteSlot w
    s.writePath false (s.arrival w.pair (.write w.line) n) w.line

/-- The host port accepts a write as one act (R61, R62). -/
def State.acceptWrite (w : WriteReq) (s : State) : State :=
  let duplicate := s.host.writePairs.contains w.pair
  (s.actOnClass w duplicate (s.cls.classify w duplicate)).endAct

/-- The host port accepts a read as one act (R60, R66). -/
def State.acceptRead (r : ReadReq) (s : State) : State :=
  if s.host.readPairs.contains r.pair then
    { s with host := { s.host with
        readSlots := s.host.readSlots ++ [⟨r, true, true⟩]
        readResponses := s.host.readResponses ++ [⟨r.pair, .memory, zeroBlock, true⟩] } }
  else (s.takeReadSlot r).enqueueRequest (.hostRead r.pair r.line)

/-- The port takes the oldest waiting write when it is in READY with a free write slot (R59). -/
def State.acceptWrites : Nat → State → State
  | 0, s => s
  | fuel + 1, s =>
    match s.bus.writes with
    | [] => s
    | w :: rest =>
      if s.power.device = .ready ∧ s.host.writeSlots.length < slotsPerKind then
        (({ s with bus := { s.bus with writes := rest } }).acceptWrite w).acceptWrites fuel
      else s

/-- The port takes the oldest waiting read when it is in READY with a free read slot (R59). -/
def State.acceptReads : Nat → State → State
  | 0, s => s
  | fuel + 1, s =>
    match s.bus.reads with
    | [] => s
    | r :: rest =>
      if s.power.device = .ready ∧ s.host.readSlots.length < slotsPerKind then
        (({ s with bus := { s.bus with reads := rest } }).acceptRead r).acceptReads fuel
      else s

/-- The port takes what it can from both request channels (R59, LOG 5). -/
def State.acceptWaiting (s : State) : State :=
  (s.acceptWrites s.bus.writes.length).acceptReads s.bus.reads.length

/-- A duplicate mark and pair name the slot whose response is taken (R58, R60). -/
def WriteSlot.answeredFor (r : WriteResponse) (x : WriteSlot) : Bool :=
  x.req.pair == r.pair && x.duplicate == r.duplicate && x.answered

/-- The read slot whose response is taken. -/
def ReadSlot.answeredFor (r : ReadResponse) (x : ReadSlot) : Bool :=
  x.req.pair == r.pair && x.duplicate == r.duplicate && x.answered

/-- The host takes the oldest response of the write channel: the slot is freed, and with it its pair
unless it was a duplicate (R58, R60). -/
def HostPort.takeWriteResponse (h : HostPort) : HostPort :=
  match h.writeResponses with
  | [] => h
  | r :: rest =>
    { h with writeResponses := rest, writeSlots := h.writeSlots.eraseP (·.answeredFor r) }

/-- The host takes the oldest response of the read channel (R58, R60). -/
def HostPort.takeReadResponse (h : HostPort) : HostPort :=
  match h.readResponses with
  | [] => h
  | r :: rest =>
    { h with readResponses := rest, readSlots := h.readSlots.eraseP (·.answeredFor r) }

end Sys2Proof.Machine
end

