-- ==== Sys2Proof/Machine/HostPort.lean ====
section
/-! DEFINITION. The meanings of the host port's commands (R58, R59, R62, R66). -/

namespace Sys2Proof.Machine

/-- HOST_WRITE_REQUEST (R59, R61, R62): the write joins the requests waiting on its channel, and the
port takes what it can. -/
def execHostWriteRequest (w : WriteReq) (s : State) : Host.Outcome State Fault Refusal :=
  .next ({ s with bus := { s.bus with writes := s.bus.writes ++ [w] } }).acceptWaiting

/-- HOST_READ_REQUEST (R57, R59, R60, R66). -/
def execHostReadRequest (r : ReadReq) (s : State) : Host.Outcome State Fault Refusal :=
  .next ({ s with bus := { s.bus with reads := s.bus.reads ++ [r] } }).acceptWaiting

/-- The host takes a response, power control hears of the freed slot, and the port takes the next
waiting request (R58, R59, R67, R149). -/
def State.responseTaken (ch : Channel) (s : State) : State :=
  let host := match ch with
    | .write => s.host.takeWriteResponse
    | .read => s.host.takeReadResponse
  ({ s with host := host }).endAct.acceptWaiting

/-- HOST_RESPONSE_TAKEN (R58). -/
def execHostResponseTaken (ch : Channel) (s : State) : Host.Outcome State Fault Refusal :=
  .next (s.responseTaken ch)

end Sys2Proof.Machine
end

