-- ==== Sys2Proof/Machine/Payloads.lean ====
section
/-! DEFINITION. The payloads of management responses, byte by byte (R170, R171, R178). -/

namespace Sys2Proof.Machine

/-! ### STATUS (R170) -/

/-- The credit word: bit 15 the stale indication, bits 11 to 0 the credit figure (R178), and 0 in bits 14
to 12 (LOG 35). -/
def Meter.creditWord (m : Meter) : Nat := (if m.stale then 2 ^ 15 else 0) + m.credit

/-- Device, drain and counts: the first 9 bytes of STATUS part 0. -/
def State.devicePart (s : State) : List Byte :=
  [s.power.device.code, s.power.cause.code, s.power.phase.code, yesNo s.power.resetRemembered,
    BitVec.ofNat 8 s.power.commits] ++ bytesOf 2 s.entryCount ++ bytesOf 2 s.effectiveCeiling

/-- The meter's 19 bytes of STATUS part 0 (R138). -/
def Meter.part (m : Meter) : List Byte :=
  [m.mode.code] ++ bytesOf 2 m.raw ++ signedBytes m.offset ++ bytesOf 2 m.store
    ++ bytesOf 2 m.creditWord ++ [faultByte m.faultRaw m.faultOffset, yesNo m.shortfall]
    ++ bytesOf 2 m.period ++ bytesOf 2 m.reserve ++ bytesOf 2 m.cost ++ bytesOf 2 m.cap

/-- The drain tallies of STATUS part 0 (R104). -/
def Engine.part (g : Engine) : List Byte :=
  bytesOf 2 g.restoredTally ++ bytesOf 2 g.failedTally ++ bytesOf 2 g.lingerTally

/-- STATUS part 0 (R170, R178). -/
def State.statusPart0 (s : State) : List Byte := s.devicePart ++ s.meter.part ++ s.engine.part

/-- The tag is free. -/
def Tag.isFree : Tag → Bool
  | .free => true
  | .inUse _ _ _ | .poisoned _ => false

/-- The tag is poisoned. -/
def Tag.isPoisoned : Tag → Bool
  | .poisoned _ => true
  | .free | .inUse _ _ _ => false

/-- How many general tags have a property. -/
def MemPort.countGeneral (p : Tag → Bool) (m : MemPort) : Nat :=
  (m.tags.toList.take generalTags).countP p

/-- How many reserved tags have a property. -/
def MemPort.countReserved (p : Tag → Bool) (m : MemPort) : Nat :=
  (m.tags.toList.drop generalTags).countP p

/-- The memory port's six bytes of STATUS part 1 (R124). -/
def MemPort.part (m : MemPort) : List Byte :=
  [m.countGeneral Tag.isFree, m.countReserved Tag.isFree, m.countGeneral Tag.isPoisoned,
    m.countReserved Tag.isPoisoned, m.queue.length, m.limit].map (BitVec.ofNat 8 ·)

/-- The outcome store's 17 bytes of STATUS part 1 (R163). -/
def Store.part (st : Store) : List Byte :=
  [yesNo st.usable, BitVec.ofNat 8 st.next.val] ++ bytesOf 4 st.drainSeq.toNat
    ++ [BitVec.ofNat 8 (st.countSlots .erased), BitVec.ofNat 8 (st.countSlots .valid),
      BitVec.ofNat 8 (st.countSlots .invalid), st.op.code, BitVec.ofNat 8 st.op.number,
      st.report.outcome.code]
    ++ bytesOf 4 (seqNat st.report.seq) ++ [st.report.cause.code]

/-- The long-command byte: bit 0 RESTART, bit 1 CALIBRATE (R178), and 0 in bits 7 to 2 (LOG 35). -/
def Mgmt.longByte (m : Mgmt) : Byte :=
  (if m.restartOut then 1#8 else 0#8) ||| (if m.calibrateOut then 2#8 else 0#8)

/-- The RETRY stream set, bit n for stream n (R178). -/
def Mgmt.retryByte (m : Mgmt) : Byte :=
  allStreams.foldl (fun b n => if m.retryOut.contains n then b ||| (1#8 <<< n.val) else b) 0#8

/-- The reporting part of STATUS part 1 (R170). -/
def Mgmt.part (m : Mgmt) : List Byte :=
  bytesOf 2 m.flags.toNat ++ bytesOf 2 m.mask.toNat
    ++ [BitVec.ofNat 8 m.events.length, m.longByte, m.retryByte]

/-- STATUS part 1 (R170, R178). -/
def State.statusPart1 (s : State) : List Byte := s.port.part ++ s.store.part ++ s.mgmt.part

/-! ### STREAM_INFO, REGION_INFO, SOURCE_MAP_INFO (R55, R68) -/

/-- STREAM_INFO (R55, R178). -/
def State.streamPayload (n : StreamId) (s : State) : List Byte :=
  let r := s.stream n
  [r.state.code] ++ bytesOf 2 r.epoch.toNat ++ bytesOf 4 r.opening.toNat
    ++ bytesOf 2 (s.streamEntries n) ++ bytesOf 2 (s.streamFailed n)
    ++ [BitVec.ofNat 8 (s.heldCount n), BitVec.ofNat 8 r.inFlight, yesNo r.doomed]
    ++ bytesOf 4 (r.age.valueAt s.now) ++ [keptCode r.kept, lossCode r.lossCause]
    ++ bytesOf 2 r.lossRestored ++ bytesOf 2 r.lossFailed ++ [yesNo r.noticeOwed, r.policy.code]
    ++ bytesOf 2 r.holdLimit ++ bytesOf 2 r.quota ++ bytesOf 2 r.ageLimit

/-- REGION_INFO (R68, R178). -/
def Window.payload (w : Window) : List Byte :=
  [yesNo w.enabled, w.kind.code] ++ bytesOf 4 w.base ++ bytesOf 4 w.count

/-- SOURCE_MAP_INFO: one byte a source, 0 first (R68, R178). -/
def Classifier.mapPayload (c : Classifier) : List Byte := c.sourceMap.toList.map mapCode

/-! ### FAILED_LIST and ENTRY_IMAGE (R24, R171) -/

/-- An item of FAILED_LIST: entry index and line address (R178). -/
def failedItem (e : Entry) : List Byte := bytesOf 2 e.index ++ bytesOf 5 e.line.toNat

/-- The items of FAILED_LIST: the first four FAILED entries of stream `n` from `start` on, in rising
index order (R171). -/
def State.failedItems (n : StreamId) (start : Nat) (s : State) : List Entry :=
  (s.journal.entries.filter fun e =>
    e.stream == n && e.isIn .failed && decide (start ≤ e.index)).take 4

/-- FAILED_LIST (R171, R178). -/
def failedPayload (items : List Entry) : List Byte :=
  [BitVec.ofNat 8 items.length] ++ (items.map failedItem).flatten

/-- The 32 bytes of a half of an image (R171). -/
def halfOf (second : Bool) (image : Block) : List Byte :=
  if second then image.toList.drop 32 else image.toList.take 32

/-- ENTRY_IMAGE of an entry with its before-image (R171, R178). -/
def imagePayload (second : Bool) (e : Entry) (image : Block) : List Byte :=
  [entryCode (some e)] ++ bytesOf 5 e.line.toNat ++ [BitVec.ofNat 8 e.failures]
    ++ halfOf second image

/-! ### OUTCOME and EVENT_NEXT (R162, R175) -/

/-- OUTCOME: the slot number, then the fields of the record (R162, R178): of an END bytes 0 to 11, of
a BEGIN bytes 0 to 6 and the items. -/
def outcomePayload (r : SlotRecord) (b : Block) : List Byte :=
  [BitVec.ofNat 8 r.slot.val]
    ++ (if r.isEnd then b.toList.take 12
      else b.toList.take 7 ++ (b.toList.drop 8).take (4 * r.items))

/-- EVENT_NEXT: the number of records left, then the record (R175, R178). -/
def eventPayload (left : Nat) (e : EventRec) : List Byte := [BitVec.ofNat 8 left] ++ e.bytes

end Sys2Proof.Machine
end

