-- ==== Sys2Proof/Machine/Init.lean ====
section
/-! DEFINITION. Power control's INIT (R142, R143), POR and OFF (R141), and what the other blocks hold
after INIT (Tables 1-5, 2-5, 3-5, 4-5, 5-4, 6-2, 7-3, 8-3, 9-1, 10-5). -/

namespace Sys2Proof.Machine

/-! ### Step 1: clear (R142, R153) -/

/-- A stream record at INIT (Table 2-5): the epoch number is kept, the configuration is kept or set
to its defaults. -/
def Stream.atInit (clearConfig : Bool) (r : Stream) : Stream :=
  if clearConfig then { Stream.por with epoch := r.epoch }
  else
    { Stream.por with
      epoch := r.epoch, policy := r.policy, holdLimit := r.holdLimit, quota := r.quota
      ageLimit := r.ageLimit }

/-- The meter at INIT step 1: shortfall becomes no, the credit figure is held and stale, and a cleared
configuration takes its defaults (R128, R136, R137 Table 7-3; LOG 15 for the moment). -/
def Meter.atInit (clearConfig : Bool) (m : Meter) : Meter :=
  if clearConfig then
    { m with
      shortfall := false, stale := true, period := Meter.por.period, reserve := Meter.por.reserve
      cost := Meter.por.cost, cap := Meter.por.cap }
  else { m with shortfall := false, stale := true }

/-- The memory port at INIT (Table 6-2). -/
def MemPort.atInit (clearConfig : Bool) (m : MemPort) : MemPort :=
  { m with
    tags := MemPort.por.tags, queue := [], limit := if clearConfig then MemPort.por.limit else m.limit }

/-- The management port at INIT (Table 10-5): a RESET_N clears pending response, flags, mask and event
queue. -/
def Mgmt.atInit (clearConfig : Bool) (m : Mgmt) : Mgmt :=
  if clearConfig then { m with response := none, flags := 0#16, mask := 0#16, events := [] } else m

/-- INIT step 1 (R22, R54, R91, R108, R126, R142): the journal and its neighbours are cleared, and the
configuration too when a reset is remembered or INIT began at POR. -/
def State.clearBlocks (clearConfig : Bool) (s : State) : State :=
  { s with
    initTime := s.now
    host := ⟨[], [], [], []⟩
    cls := if clearConfig then Classifier.por else s.cls
    journal := Journal.cleared
    epochs := ⟨mapVector (Stream.atInit clearConfig) s.epochs.streams, 0#32⟩
    wc := ⟨[], false⟩
    engine := Engine.cleared
    port := s.port.atInit clearConfig
    meter := s.meter.atInit clearConfig
    power := { s.power with commits := 0, phase := .none, settleSince := none }
    mgmt := s.mgmt.atInit clearConfig }

/-! ### Steps 2 to 5 -/

/-- INIT goes to one of its steps. -/
def State.toInitStep (x : InitStep) (s : State) : State :=
  { s with power := { s.power with initStep := some x } }

/-- Step 3 (R133): the meter starts a calibration, whatever state it is in. -/
def State.beginMeterStep (s : State) : State := (s.toInitStep .calibrate).startCalibration false

/-- Step 2 (R158, R161): a usable store begins its scan; an unusable one reports at once, its report
is UNRECORDED, and step 3 follows. -/
def State.beginStoreStep (s : State) : State :=
  if s.store.usable then
    ({ s with store := { s.store with op := .scanning } }).toInitStep .store
  else
    ({ s with store := { s.store with report := unrecordedReport s.power.cause } }).beginMeterStep

/-- Step 2 ends when the store's work is over (R142, R159). -/
def State.storeStepDone (s : State) : State :=
  match s.store.op with
  | .idle => s.beginMeterStep
  | .scanning | .erasing _ _ | .programming _ _ _ => s

/-- Step 1 ends when RESET_N is not low; reset remembered then becomes no (R142, R143, LOG 13). -/
def State.leaveClearStep (s : State) : State :=
  if s.pins.resetHigh then
    ({ s with power := { s.power with resetRemembered := false } }).beginStoreStep
  else s.toInitStep .clear

/-- INIT begins, or begins again, at step 1 (R142). A calibration still in progress in SPENT goes on into it
(R133, LOG 36). -/
def State.beginInit (clearConfig : Bool) (s : State) : State :=
  let s := s.clearBlocks clearConfig
  ({ s with power := { s.power with device := .init } }).leaveClearStep

/-- INIT is cut short to SPENT with a cause and drain phase none; a sector erase in progress is left
unfinished, and no record is written (R143). -/
def State.cutInit (cause : DrainCause) (s : State) : State :=
  let s := s.cutStore
  ({ s with power := { s.power with cause := cause } }).enterSpent

/-- Step 5 (R142, R143): the supply and PFAIL_N are read. With the supply good and PFAIL_N high the part
enters READY and the port takes waiting requests; otherwise it enters SPENT (LOG 27; LOG 30 for a supply
that has sagged). -/
def State.openOrSpend (s : State) : State :=
  let s := s.readSupply
  if s.pins.supplyGood = false then s.cutInit .power
  else if s.pins.pfailHigh = false then s.cutInit .pfail
  else ({ s with power := { s.power with device := .ready, initStep := none } }).acceptWaiting

/-- Steps 4 and 5, at the meter's first-publication report (R133, R142). -/
def State.finishInit (s : State) : State :=
  (s.raise ⟨.initDone, none, none, none, none, .initDone s.store.report⟩).openOrSpend

/-- A RESET_N assertion in INIT drops a calibration or a first survey in progress: the meter is RUNNING
with a new survey until step 3 is reached again (R133, R143, LOG 14). -/
def State.dropMeterWork (s : State) : State :=
  match s.meter.mode with
  | .calibrating _ => s.startSurvey
  | .running _ => if s.power.initStep = some .firstSurvey then s.startSurvey else s
  | .stopped => s

/-- A RESET_N assertion in INIT restarts INIT at step 1 with the configuration cleared (R143). -/
def State.restartInit (s : State) : State :=
  let s := s.cutStore
  let first := s.power.initStep
  let s := { s with power := { s.power with resetRemembered := true } }
  let s := s.clearBlocks true
  (({ s with power := { s.power with initStep := first } }).dropMeterWork).leaveClearStep

/-! ### OFF and POR (R141) -/

/-- Every volatile block at its value after POR (R141); in OFF nothing is held. -/
def State.volatileAtPor (device : DeviceState) (step : Option InitStep) (address : BitVec 7)
    (s : State) : State :=
  { s with
    initTime := s.now
    host := ⟨[], [], [], []⟩
    cls := Classifier.por
    journal := Journal.cleared
    epochs := ⟨Vector.replicate 8 Stream.por, 0#32⟩
    wc := ⟨[], false⟩
    engine := Engine.cleared
    port := MemPort.por
    meter := Meter.por
    power := Power.por device step
    store := Store.por s.store.slots
    mgmt := Mgmt.por address }

/-- The management address: 5Ch plus the straps (R164). -/
def strappedAddress (straps : BitVec 2) : BitVec 7 := 0x5C#7 + straps.setWidth 7

end Sys2Proof.Machine
end

