-- ==== Sys2Proof/Machine/Timers.lean ====
section
/-! DEFINITION. The meanings of the data path's timers and of ROLLBACK_N (R41, R42, R81), and of the
meter's survey ends (R129, R132). -/

namespace Sys2Proof.Machine

/-- The moment a held item's limit is reached (R80). -/
def State.holdDue (it : HeldItem) (s : State) : Nat :=
  s.initTime + it.holdStart + (s.stream it.stream).holdLimit

/-- HOLD_LIMIT_EXPIRY (R80, R81): an item held for a limited reason expires. -/
def execHoldLimitExpiry (p : Pair) (s : State) : Host.Outcome State Fault Refusal :=
  match s.heldItem? p with
  | some it =>
    if it.reason.limited then
      .next ((((s.advanceTo (s.holdDue it)).expireItem it).owePass).endAct)
    else .next s
  | none => .next s

/-- The age limit in milliseconds (R29). -/
def Stream.ageLimitMs (r : Stream) : Nat := r.ageLimit * 10

/-- An expiry can come to the stream: OPEN, in READY, with an age limit (R29). -/
def State.canAge (n : StreamId) (s : State) : Bool :=
  s.power.device == .ready && (s.stream n).state == .open && (s.stream n).ageLimit != 0

/-- The moment a running age reaches the limit (R29). -/
def State.ageDue (n : StreamId) (s : State) : Nat :=
  match (s.stream n).age with
  | .running since => since + (s.stream n).ageLimitMs
  | .stopped _ => s.now

/-- AGE_EXPIRY (R29, R42): an OPEN epoch with an age limit is rolled back with cause AGED. -/
def execAgeExpiry (n : StreamId) (s : State) : Host.Outcome State Fault Refusal :=
  if s.canAge n then .next (((s.advanceTo (s.ageDue n)).enterRolling n .aged).endAct) else .next s

/-- Every OPEN or COMMITTING stream enters ROLLING with cause LINE, in ascending number (R41,
LOG 10). -/
def State.rollbackAll (s : State) : State :=
  allStreams.foldl (fun s n => s.enterRolling n .line) s

/-- ROLLBACK_N_ASSERTION (R41): taken in READY, ignored in every other state. -/
def execRollbackNAssertion (s : State) : Host.Outcome State Fault Refusal :=
  if s.power.device = .ready then .next s.rollbackAll.endAct else .next s

/-- The meter's first-publication report lets INIT go on (R133, R142). -/
def State.afterPublication (s : State) : State :=
  if s.power.device = .init ∧ s.power.initStep = some .firstSurvey then s.finishInit else s

/-- SURVEY_END (R129, R130): a survey in RUNNING ends with its publication. -/
def execSurveyEnd (raw : BitVec 16) (s : State) : Host.Outcome State Fault Refusal :=
  match s.meter.mode with
  | .running sv =>
    .next ((((s.advanceTo (sv.start + sv.period)).publish sv raw.toNat).endAct).afterPublication)
  | .stopped | .calibrating _ => .next s

/-- INIT's calibration has ended: the first survey follows (R133). -/
def State.afterCalibration (s : State) : State :=
  if s.power.device = .init ∧ s.power.initStep = some .calibrate then s.toInitStep .firstSurvey else s

/-- The first zero survey ends, and the second begins (R132). -/
def State.firstZeroReading (c : Calibration) (reading : Int) (s : State) : State :=
  { s with meter := { s.meter with
      mode := .calibrating { c with start := s.now, first := some reading } } }

/-- ZERO_SURVEY_END (R132): the first of two leaves its reading; the second ends the calibration. -/
def execZeroSurveyEnd (reading : BitVec 16) (s : State) : Host.Outcome State Fault Refusal :=
  match s.meter.mode with
  | .calibrating c =>
    match c.first with
    | none => .next ((s.advanceTo (c.start + c.period)).firstZeroReading c reading.toInt)
    | some first =>
      .next (((s.advanceTo (c.start + c.period)).endCalibration c first reading.toInt).afterCalibration)
  | .stopped | .running _ => .next s

end Sys2Proof.Machine
end

