-- ==== Sys2Proof/Machine/Commands.lean ====
section
/-! DEFINITION. The management commands (R169): each judged by the device state and by its values
(R167 steps 7 and 8), executed by the rule that owns its state (step 9), and answered. -/

namespace Sys2Proof.Machine

/-! ### Judging and answering (R167, R168, R169) -/

/-- A judged request makes the pending response, in place of any other (R168). -/
def State.respond (status : RespStatus) (payload : List Byte) (s : State) : State :=
  { s with mgmt := { s.mgmt with response := some ⟨status, payload⟩ } }

/-- Setting commands and ABORT are taken in INIT and READY (Table 10-3). -/
def State.takesSettings (s : State) : Bool :=
  s.power.device == .init || s.power.device == .ready

/-- RESUME, CALIBRATE and RESTART are taken in READY (Table 10-3). -/
def State.isReady (s : State) : Bool := s.power.device == .ready

/-- Steps 7 to 9 of R167: a command not taken in the device state is answered NOT_NOW, a value out of
range BAD_VALUE, and otherwise the command is executed. -/
def State.judged {α : Type} (taken : Bool) (values : Option α) (execute : α → State → State)
    (s : State) : State :=
  if taken then
    match values with
    | some a => execute a s
    | none => s.respond .badValue []
  else s.respond .notNow []

/-! ### Read commands -/

/-- STATUS(part) (R170). -/
def State.statusCmd (part : Byte) (s : State) : State :=
  if part = 0#8 then s.respond .ok s.statusPart0
  else if part = 1#8 then s.respond .ok s.statusPart1
  else s.respond .badValue []

/-- STREAM_INFO(n) (R55). -/
def State.streamInfoCmd (n : Byte) (s : State) : State :=
  s.judged true (streamParam n) fun n s => s.respond .ok (s.streamPayload n)

/-- REGION_INFO(w) (R68). -/
def State.regionInfoCmd (w : Byte) (s : State) : State :=
  s.judged true (windowParam w) fun w s => s.respond .ok (s.cls.windows[w]).payload

/-- SOURCE_MAP_INFO (R68). -/
def State.sourceMapInfoCmd (s : State) : State := s.respond .ok s.cls.mapPayload

/-- The values of FAILED_LIST: a stream and a start of 0 to 511 (R169). -/
def failedListParam (n : Byte) (start : BitVec 16) : Option (StreamId × Nat) :=
  if start.toNat < journalSize then (streamParam n).map fun n => (n, start.toNat) else none

/-- FAILED_LIST(n, start) (R171). -/
def State.failedListCmd (n : Byte) (start : BitVec 16) (s : State) : State :=
  s.judged true (failedListParam n start) fun v s =>
    s.respond .ok (failedPayload (s.failedItems v.1 v.2))

/-- The values of ENTRY_IMAGE: an entry of 0 to 511 and a half of 0 or 1 (R169). -/
def entryImageParam (entry : BitVec 16) (half : Byte) : Option (Nat × Bool) :=
  if entry.toNat < journalSize then (yesNoParam half).map fun h => (entry.toNat, h) else none

/-- ENTRY_IMAGE's answer for an entry (R171). -/
def entryImageAnswer (second : Bool) (e : Option Entry) : Response :=
  match e with
  | none => ⟨.empty, [entryCode none]⟩
  | some e =>
    match e.image with
    | none => ⟨.empty, [entryCode (some e)]⟩
    | some im => ⟨.ok, imagePayload second e im⟩

/-- ENTRY_IMAGE(entry, half) (R171). -/
def State.entryImageCmd (entry : BitVec 16) (half : Byte) (s : State) : State :=
  s.judged true (entryImageParam entry half) fun v s =>
    let answer := entryImageAnswer v.2 (s.entry? v.1)
    s.respond answer.status answer.payload

/-- The value of OUTCOME: k of 0 to 63 (R162). -/
def outcomeParam (k : Byte) : Option Nat := if k.toNat < 64 then some k.toNat else none

/-- OUTCOME(k) (R162). -/
def State.outcomeCmd (k : Byte) (s : State) : State :=
  s.judged true (outcomeParam k) fun k s =>
    match s.store.kthNewest k with
    | some r => s.respond .ok (outcomePayload r s.store.slots[r.slot])
    | none => s.respond .empty []

/-! ### Reporting commands -/

/-- EVENT_NEXT (R175). -/
def State.eventNextCmd (s : State) : State :=
  match s.mgmt.events with
  | [] => s.respond .empty []
  | e :: rest =>
    ({ s with mgmt := { s.mgmt with events := rest } }).respond .ok (eventPayload rest.length e)

/-- FLAGS_CLEAR(mask) (R173). -/
def State.flagsClearCmd (mask : BitVec 16) (s : State) : State :=
  ({ s with mgmt := { s.mgmt with flags := clearFlags s.mgmt.flags mask } }).respond .ok []

/-- ALERT_MASK_SET(mask) (R174). -/
def State.alertMaskSetCmd (mask : BitVec 16) (s : State) : State :=
  ({ s with mgmt := { s.mgmt with mask := storedMask mask } }).respond .ok []

/-! ### Setting commands -/

/-- A stream's four configuration fields are replaced together (R26). -/
def Stream.configure (c : StreamConfig) (r : Stream) : Stream :=
  { r with policy := c.policy, holdLimit := c.holdLimit, quota := c.quota, ageLimit := c.ageLimit }

/-- Stream `n`'s age stands at or beyond its limit, where an expiry can come to it (R29). -/
def State.ageOver (n : StreamId) (s : State) : Bool :=
  s.canAge n && decide ((s.stream n).ageLimitMs ≤ (s.stream n).age.valueAt s.now)

/-- The effect of STREAM_SET (R26, R29, R80): the fields are replaced, items held beyond the new limit
expire (LOG 9), an age at or beyond its new limit expires, and a changed quota owes a pass. -/
def State.setStreamConfig (n : StreamId) (c : StreamConfig) (s : State) : State :=
  let oldQuota := (s.stream n).quota
  let s := (s.updStream n (Stream.configure c)).expireOverdue n
  let s := if s.ageOver n then s.enterRolling n .aged else s
  (if c.quota = oldQuota then s else s.owePass).endAct

/-- The values of STREAM_SET (R26). -/
def streamSetParam (n policy : Byte) (holdLimit quota ageLimit : BitVec 16) :
    Option (StreamId × StreamConfig) :=
  match streamParam n, streamConfigParam policy holdLimit quota ageLimit with
  | some n, some c => some (n, c)
  | _, _ => none

/-- STREAM_SET (R26). -/
def State.streamSetCmd (n policy : Byte) (holdLimit quota ageLimit : BitVec 16) (s : State) : State :=
  s.judged s.takesSettings (streamSetParam n policy holdLimit quota ageLimit) fun v s =>
    (s.setStreamConfig v.1 v.2).respond .ok []

/-- Two extents share a page (R64). -/
def Window.shares (a b : Window) : Bool :=
  decide (a.base < b.base + b.count) && decide (b.base < a.base + a.count)

/-- REGION_SET's overlap check: the new setting is enabled and shares a page with another enabled
window (R64 check 2). -/
def Classifier.overlaps (w : Fin 8) (new : Window) (c : Classifier) : Bool :=
  new.enabled && (List.finRange 8).any fun v => v != w && c.windows[v].enabled && new.shares c.windows[v]

/-- The line lies in the window's extent, enabled or not (R64). -/
def Window.holdsLine (l : LineAddr) (w : Window) : Bool :=
  decide (w.base ≤ pageOf l) && decide (pageOf l < w.base + w.count)

/-- REGION_SET's check of entries: a working entry lies in the old extent of an enabled window, or in
the requested extent (R64 check 3). -/
def State.entriesInWay (w : Fin 8) (new : Window) (s : State) : Bool :=
  s.journal.entries.any fun e => s.cls.windows[w].covers e.line || new.holdsLine e.line

/-- Checks 2 to 4 of REGION_SET (R64). -/
def State.setRegion (w : Fin 8) (new : Window) (s : State) : State :=
  if s.cls.overlaps w new then s.respond .badValue []
  else if s.entriesInWay w new then s.respond .busy []
  else
    ({ s with cls := { s.cls with windows := s.cls.windows.set w new } }).respond .ok []

/-- Check 1 of REGION_SET with the codes of Table 11-4 (R64, R178). -/
def regionSetParam (w enable kind : Byte) (base count : BitVec 32) : Option (Fin 8 × Window) :=
  match windowParam w, yesNoParam enable, kindParam kind with
  | some w, some en, some k =>
    if regionInRange base.toNat count.toNat then some (w, ⟨en, k, base.toNat, count.toNat⟩) else none
  | _, _, _ => none

/-- REGION_SET (R64). -/
def State.regionSetCmd (w enable kind : Byte) (base count : BitVec 32) (s : State) : State :=
  s.judged s.takesSettings (regionSetParam w enable kind base count) fun v s => s.setRegion v.1 v.2

/-- A map value names a stream that is not CLOSED; NONE does not (R65 check 2). -/
def State.namesBusyStream (m : Option StreamId) (s : State) : Bool :=
  match m with
  | none => false
  | some n => (s.stream n).state != .closed

/-- Checks 2 and 3 of SOURCE_MAP_SET (R65). -/
def State.setSource (src : SourceId) (m : Option StreamId) (s : State) : State :=
  if s.namesBusyStream s.cls.sourceMap[src] || s.namesBusyStream m then s.respond .busy []
  else
    ({ s with cls := { s.cls with sourceMap := s.cls.sourceMap.set src m } }).respond .ok []

/-- Check 1 of SOURCE_MAP_SET (R65). -/
def sourceMapSetParam (source stream : Byte) : Option (SourceId × Option StreamId) :=
  match sourceParam source, mapParam stream with
  | some src, some m => some (src, m)
  | _, _ => none

/-- SOURCE_MAP_SET (R65). -/
def State.sourceMapSetCmd (source stream : Byte) (s : State) : State :=
  s.judged s.takesSettings (sourceMapSetParam source stream) fun v s => s.setSource v.1 v.2

/-- The meter configuration METER_SET gives (R128). -/
structure MeterConfig where
  period : Nat
  reserve : Nat
  cost : Nat
  cap : Nat
  deriving DecidableEq, Repr

/-- The values of METER_SET (R131). -/
def meterSetParam (period reserve cost cap : BitVec 16) : Option MeterConfig :=
  if meterInRange period.toNat cost.toNat cap.toNat then
    some ⟨period.toNat, reserve.toNat, cost.toNat, cap.toNat⟩
  else none

/-- The meter's configuration is replaced; what is latched stays (R131). -/
def Meter.configure (c : MeterConfig) (m : Meter) : Meter :=
  { m with period := c.period, reserve := c.reserve, cost := c.cost, cap := c.cap }

/-- The effect of METER_SET (R131): the values replaced, shortfall evaluated, the capacity pass. -/
def State.setMeterConfig (c : MeterConfig) (s : State) : State :=
  (({ s with meter := s.meter.configure c }).evalShortfall.owePass).endAct

/-- METER_SET (R131). -/
def State.meterSetCmd (period reserve cost cap : BitVec 16) (s : State) : State :=
  s.judged s.takesSettings (meterSetParam period reserve cost cap) fun c s =>
    (s.setMeterConfig c).respond .ok []

/-- The value of TIMEOUT_SET: 1 to 255 ms (R118). -/
def timeoutParam (limit : Byte) : Option Nat := if limit = 0#8 then none else some limit.toNat

/-- TIMEOUT_SET (R118): requests already issued keep their limits. -/
def State.timeoutSetCmd (limit : Byte) (s : State) : State :=
  s.judged s.takesSettings (timeoutParam limit) fun l s =>
    ({ s with port := { s.port with limit := l } }).respond .ok []

/-! ### Action commands -/

/-- ABORT on a stream, by its state (R40). -/
def State.abortStream (n : StreamId) (s : State) : State :=
  match (s.stream n).state with
  | .open | .committing => ((s.enterRolling n .mgmt).endAct).respond .ok []
  | .rolling => s.respond .ok []
  | .closed | .abandoned | .halted => s.respond .noEpoch []

/-- ABORT(n) (R40). -/
def State.abortCmd (n : Byte) (s : State) : State :=
  s.judged s.takesSettings (streamParam n) fun n s => s.abortStream n

/-- A RESUME can act: the stream is HALTED with no job in the restore queue (R51, R52). -/
def State.canResume (n : StreamId) (s : State) : Bool :=
  (s.stream n).state == .halted && !s.hasJob n

/-- The effect of RESUME with RETRY (R51, R172). -/
def State.beginRetry (n : StreamId) (s : State) : State :=
  let s := { s with mgmt := { s.mgmt with retryOut := s.mgmt.retryOut ++ [n] } }
  ((s.enqueueJob .retry n .mgmt).runEngine).endAct

/-- RESUME(n, RETRY) (R51). -/
def State.resumeRetryCmd (n : Byte) (s : State) : State :=
  s.judged s.isReady (streamParam n) fun n s =>
    if s.canResume n then (s.beginRetry n).respond .accepted [] else s.respond .notNow []

/-- The effect of RESUME with DISCARD (R20, R52): the FAILED entries are freed as one act, and the
stream leaves HALTED by notice owed. -/
def State.discardFailed (n : StreamId) (s : State) : State :=
  let s := s.freeEntries (s.failedIndexes n)
  let s := s.updStream n fun r => r.enter (resolvedState r.noticeOwed)
  s.owePass.endAct

/-- RESUME(n, DISCARD) (R52). -/
def State.resumeDiscardCmd (n : Byte) (s : State) : State :=
  s.judged s.isReady (streamParam n) fun n s =>
    if s.canResume n then (s.discardFailed n).respond .ok [] else s.respond .notNow []

/-- A calibration on request begins, and is outstanding (R132, R134, R172). -/
def State.requestCalibration (s : State) : State :=
  ({ s with mgmt := { s.mgmt with calibrateOut := true } }).startCalibration true

/-- CALIBRATE, by the meter's state (R134, LOG 29). -/
def State.calibrateCmd (s : State) : State :=
  s.judged s.isReady (some ()) fun _ s =>
    match s.meter.mode with
    | .running _ => s.requestCalibration.respond .accepted []
    | .calibrating _ | .stopped => s.respond .busy []

/-- RESTART is outstanding, and the drain begins as part of taking it (R144, R172). -/
def State.beginRestart (s : State) : State :=
  ({ s with mgmt := { s.mgmt with restartOut := true } }).beginDrain .restart

/-- RESTART (R144). -/
def State.restartCmd (s : State) : State :=
  s.judged s.isReady (some ()) fun _ s => s.beginRestart.respond .accepted []

end Sys2Proof.Machine
end

