-- ==== Sys2Proof/WellFormed.lean ====
section
/-! DEFINITION. Which commands are well formed: most operands are held in their ranges by their
types, and three checks are left. An ill-formed command is still taken by the machine; it names
nothing the part has, and changes nothing on that account. -/

namespace Sys2Proof

/-- The last bit of an address byte is the direction, 0 for write (R164). -/
abbrev isWriteAddress (address : Byte) : Bool := address.getLsbD 0 == false

/-- The last bit of an address byte is the direction, 1 for read (R164). -/
abbrev isReadAddress (address : Byte) : Bool := address.getLsbD 0

/-- Only the tags 0 to 47 are held by requests and have a response timer (R111, R177). -/
abbrev namesATag (tag : BitVec 6) : Bool := decide (tag.toNat < 48)

/-- The well-formed commands: an expiry names a tag the part has, a request frame begins with a
write address byte, and a read frame with a read address byte. -/
def Instr.wf : Instr → Bool
  | .responseLimitExpiry tag => namesATag tag
  | .readFrame address _ _ => isReadAddress address
  | .requestFrame address _ _ => isWriteAddress address
  | .hostWriteRequest _ | .hostReadRequest _ | .hostResponseTaken _ | .issueRequest
  | .memoryResponse _ _ _ | .holdLimitExpiry _ | .ageExpiry _ | .rollbackNAssertion
  | .surveyEnd _ | .zeroSurveyEnd _ | .por _ | .supplyLoss | .supplyTrip | .pfailNAssertion
  | .resetNAssertion | .supplyGood | .pfailNRise | .resetNRise | .settleTimerExpiry
  | .slotProgramDone _ | .scanDone | .sectorEraseDone _ | .linkStuck | .status _ | .streamInfo _
  | .streamSet _ _ _ _ _ | .regionInfo _ | .regionSet _ _ _ _ _ | .sourceMapInfo
  | .sourceMapSet _ _ | .abort _ | .resumeRetry _ | .resumeDiscard _ | .failedList _ _
  | .entryImage _ _ | .meterSet _ _ _ _ | .calibrate | .timeoutSet _ | .outcome _ | .eventNext
  | .flagsClear _ | .alertMaskSet _ | .restart => true

end Sys2Proof
end

