-- ==== Sys2Proof/Machine/Frames.lean ====
section
/-! DEFINITION. The management link's frames (R165 to R168): the judging of request frames, the end of
a frame, and the bytes of a response frame. -/

namespace Sys2Proof.Machine

/-! ### Executing a command (R167 steps 7 to 9) -/

/-- A management command is executed; the other commands of the part come by no frame. -/
def State.runCommand (i : Instr) (s : State) : State :=
  match i with
  | .status part => s.statusCmd part
  | .streamInfo n => s.streamInfoCmd n
  | .streamSet n p h q a => s.streamSetCmd n p h q a
  | .regionInfo w => s.regionInfoCmd w
  | .regionSet w e k b c => s.regionSetCmd w e k b c
  | .sourceMapInfo => s.sourceMapInfoCmd
  | .sourceMapSet src n => s.sourceMapSetCmd src n
  | .abort n => s.abortCmd n
  | .resumeRetry n => s.resumeRetryCmd n
  | .resumeDiscard n => s.resumeDiscardCmd n
  | .failedList n start => s.failedListCmd n start
  | .entryImage entry half => s.entryImageCmd entry half
  | .meterSet p r c k => s.meterSetCmd p r c k
  | .calibrate => s.calibrateCmd
  | .timeoutSet l => s.timeoutSetCmd l
  | .outcome k => s.outcomeCmd k
  | .eventNext => s.eventNextCmd
  | .flagsClear m => s.flagsClearCmd m
  | .alertMaskSet m => s.alertMaskSetCmd m
  | .restart => s.restartCmd
  | .hostWriteRequest _ | .hostReadRequest _ | .hostResponseTaken _ | .issueRequest
  | .memoryResponse _ _ _ | .responseLimitExpiry _ | .holdLimitExpiry _ | .ageExpiry _
  | .rollbackNAssertion | .surveyEnd _ | .zeroSurveyEnd _ | .por _ | .supplyLoss | .supplyTrip
  | .pfailNAssertion | .resetNAssertion | .supplyGood | .pfailNRise | .resetNRise
  | .settleTimerExpiry | .slotProgramDone _ | .scanDone | .sectorEraseDone _ | .readFrame _ _ _
  | .linkStuck | .requestFrame _ _ _ => s

/-- A request past test 6 (R167): a RESUME of a mode outside its range is judged by its device state
and then BAD_VALUE (R169, R178). -/
def State.runFrame (c : FrameCommand) (s : State) : State :=
  match c with
  | .command i => s.runCommand i
  | .resumeBadMode _ => s.judged s.isReady (none : Option Unit) fun _ s => s

/-! ### The judging of a request frame (R167) -/

/-- The verdict of tests 1 to 6 of R167. -/
inductive Verdict where
  | probe
  | bad (status : RespStatus)
  | execute (c : FrameCommand)
  deriving DecidableEq, Repr

/-- Tests 4 to 6 on a frame whose check is good: `code` and `len` are its first two bytes, and
`payload` the bytes between them and the check (R167). -/
def judgeParts (overLong : Bool) (code len : Byte) (payload : List Byte) : Verdict :=
  if overLong || decide (40 < len.toNat) || payload.length != len.toNat then .bad .badLength
  else
    match payloadLength code with
    | none => .bad .badCommand
    | some k =>
      if len.toNat = k then
        match frameCommand code payload with
        | some c => .execute c
        | none => .bad .badLength
      else .bad .badLength

/-- The tests of R167 in order, over the address byte and the bytes collected. -/
def judgeBytes (address : Byte) (bytes : List Byte) (overLong : Bool) : Verdict :=
  match bytes with
  | [] => .probe
  | [_] | [_, _] => .bad .badLength
  | code :: len :: rest =>
    let body := code :: len :: rest.dropLast
    if rest.getLast? = some (crc8 (address :: body)) then
      judgeParts overLong code len rest.dropLast
    else .bad .badCheck

/-- A request frame is judged at its end as one act (R167, R168). -/
def State.judgeFrame (address : Byte) (bytes : List Byte) (overLong : Bool) (s : State) : State :=
  match judgeBytes address bytes overLong with
  | .probe => s
  | .bad status => s.respond status []
  | .execute c => s.runFrame c

/-! ### The receiver (R165) -/

/-- The receiver takes a state. -/
def State.setReceiver (x : Receiver) (s : State) : State :=
  { s with mgmt := { s.mgmt with receiver := x } }

/-- A start or a stop ends the frame in progress: RECEIVING is judged, SENDING ends (Table 10-1). -/
def State.endFrame (s : State) : State :=
  match s.mgmt.receiver with
  | .idle => s
  | .receiving address bytes long => (s.setReceiver .idle).judgeFrame address bytes long
  | .sending _ => s.setReceiver .idle

/-- A management command comes in a valid request frame: a frame in progress ends, and the command is
executed; in OFF the receiver does not run (R165, R167, R169). -/
def State.byFrame (i : Instr) (s : State) : State :=
  if s.power.device = .off then s else s.endFrame.runCommand i

/-- The address byte carries the part's address (R164). -/
def Mgmt.isAddressed (address : Byte) (m : Mgmt) : Bool := address.extractLsb' 1 7 == m.address

/-- The part's answers at the ninth clocks of the latest frame: true where it holds MDAT low (R164). -/
def State.acknowledge (acks : List Bool) (s : State) : State :=
  { s with mgmt := { s.mgmt with acked := acks } }

/-- The part's answers to a request frame of `n` bytes after its own address byte: the first 43 are
acknowledged and every further byte refused (Table 10-1). -/
def byteAcks (n : Nat) : List Bool :=
  List.replicate (min n maxFrameBytes) true ++ List.replicate (n - maxFrameBytes) false

/-- A frame whose address byte carries another address: neither that byte nor a byte after it is
acknowledged, and the link is ignored until the next start (R164, Table 10-1). -/
def State.ignoreFrame (n : Nat) (s : State) : State := s.acknowledge (List.replicate (n + 1) false)

/-- A request frame at the part's address, from its start on (Table 10-1, LOG 6). -/
def State.takeRequest (address : Byte) (bytes : List Byte) (ended : Bool) (s : State) : State :=
  let s := s.acknowledge (true :: byteAcks bytes.length)
  if ended then s.judgeFrame address (collected bytes) (overLong bytes)
  else s.setReceiver (.receiving address (collected bytes) (overLong bytes))

/-- A request frame from its start on (R164, R165). -/
def State.requestFrame (address : Byte) (bytes : List Byte) (ended : Bool) (s : State) : State :=
  if isWriteAddress address then
    if s.mgmt.isAddressed address then s.takeRequest address bytes ended
    else s.ignoreFrame bytes.length
  else s

/-! ### Response frames (R168) -/

/-- The pending response, or the EMPTY frame's (R168). -/
def Mgmt.toSend (m : Mgmt) : Response := m.response.getD ⟨.empty, []⟩

/-- The bytes of a response frame after the address byte: status, length, payload, check (R168,
R178). -/
def Response.frame (address : Byte) (r : Response) : List Byte :=
  let body := [r.status.code, BitVec.ofNat 8 r.payload.length] ++ r.payload
  body ++ [crc8 (address :: body)]

/-- How many of the clocked bytes are bytes of the response: those up to the first one the controller
refuses, that one among them (Table 10-1). -/
def sentCount (acks : List Bool) : Nat := min acks.length ((acks.takeWhile (·)).length + 1)

/-- The bytes a read finds on MDAT: the frame as far as it is sent, then FFh, MDAT being released
(R165, R168). -/
def driven (frame : List Byte) (acks : List Bool) : List Byte :=
  let onLink := frame.take (sentCount acks)
  onLink ++ List.replicate (acks.length - onLink.length) 0xFF#8

/-- A read frame at the part's address, from its start on (R168): the response is consumed once its
check byte is sent, and after a refusal or the last byte the receiver is SENDING until a stop. -/
def State.sendResponse (address : Byte) (acks : List Bool) (ended : Bool) (s : State) : State :=
  let frame := s.mgmt.toSend.frame address
  { s with mgmt := { s.mgmt with
      acked := [true]
      sent := driven frame acks
      response := if frame.length ≤ sentCount acks then none else s.mgmt.response
      receiver := if ended then .idle else .sending acks.length } }

/-- A read frame from its start on (R164, R165, R168): at another address the part receives the address
byte alone, which it does not acknowledge. -/
def State.readFrame (address : Byte) (acks : List Bool) (ended : Bool) (s : State) : State :=
  if isReadAddress address then
    if s.mgmt.isAddressed address then s.sendResponse address acks ended else s.ignoreFrame 0
  else s

end Sys2Proof.Machine
end

