-- ==== Sys2Proof/Machine/Management.lean ====
section
/-! DEFINITION. The meanings of the management link's events and of the management commands (chapter
10). -/

namespace Sys2Proof.Machine

/-- READ_FRAME (R165, R168): taken in every device state but OFF. -/
def execReadFrame (address : Byte) (acks : List Bool) (ended : Bool) (s : State) :
    Host.Outcome State Fault Refusal :=
  if s.power.device = .off then .next s else .next (s.endFrame.readFrame address acks ended)

/-- LINK_STUCK (R166): the receiver returns to IDLE, and nothing else changes. -/
def execLinkStuck (s : State) : Host.Outcome State Fault Refusal := .next (s.setReceiver .idle)

/-- REQUEST_FRAME (R165, R167). -/
def execRequestFrame (address : Byte) (bytes : List Byte) (ended : Bool) (s : State) :
    Host.Outcome State Fault Refusal :=
  if s.power.device = .off then .next s else .next (s.endFrame.requestFrame address bytes ended)

/-- STATUS (R170). -/
def execStatus (part : Byte) (s : State) : Host.Outcome State Fault Refusal :=
  .next (s.byFrame (.status part))

/-- STREAM_INFO (R55). -/
def execStreamInfo (n : Byte) (s : State) : Host.Outcome State Fault Refusal :=
  .next (s.byFrame (.streamInfo n))

/-- STREAM_SET (R26). -/
def execStreamSet (n policy : Byte) (holdLimit quota ageLimit : BitVec 16) (s : State) :
    Host.Outcome State Fault Refusal :=
  .next (s.byFrame (.streamSet n policy holdLimit quota ageLimit))

/-- REGION_INFO (R68). -/
def execRegionInfo (w : Byte) (s : State) : Host.Outcome State Fault Refusal :=
  .next (s.byFrame (.regionInfo w))

/-- REGION_SET (R64). -/
def execRegionSet (w enable kind : Byte) (base count : BitVec 32) (s : State) :
    Host.Outcome State Fault Refusal :=
  .next (s.byFrame (.regionSet w enable kind base count))

/-- SOURCE_MAP_INFO (R68). -/
def execSourceMapInfo (s : State) : Host.Outcome State Fault Refusal :=
  .next (s.byFrame .sourceMapInfo)

/-- SOURCE_MAP_SET (R65). -/
def execSourceMapSet (source stream : Byte) (s : State) : Host.Outcome State Fault Refusal :=
  .next (s.byFrame (.sourceMapSet source stream))

/-- ABORT (R40). -/
def execAbort (n : Byte) (s : State) : Host.Outcome State Fault Refusal := .next (s.byFrame (.abort n))

/-- RESUME with RETRY (R51). -/
def execResumeRetry (n : Byte) (s : State) : Host.Outcome State Fault Refusal :=
  .next (s.byFrame (.resumeRetry n))

/-- RESUME with DISCARD (R52). -/
def execResumeDiscard (n : Byte) (s : State) : Host.Outcome State Fault Refusal :=
  .next (s.byFrame (.resumeDiscard n))

/-- FAILED_LIST (R171). -/
def execFailedList (n : Byte) (start : BitVec 16) (s : State) : Host.Outcome State Fault Refusal :=
  .next (s.byFrame (.failedList n start))

/-- ENTRY_IMAGE (R171). -/
def execEntryImage (entry : BitVec 16) (half : Byte) (s : State) : Host.Outcome State Fault Refusal :=
  .next (s.byFrame (.entryImage entry half))

/-- METER_SET (R131). -/
def execMeterSet (period reserve cost cap : BitVec 16) (s : State) :
    Host.Outcome State Fault Refusal :=
  .next (s.byFrame (.meterSet period reserve cost cap))

/-- CALIBRATE (R134). -/
def execCalibrate (s : State) : Host.Outcome State Fault Refusal := .next (s.byFrame .calibrate)

/-- TIMEOUT_SET (R118). -/
def execTimeoutSet (limit : Byte) (s : State) : Host.Outcome State Fault Refusal :=
  .next (s.byFrame (.timeoutSet limit))

/-- OUTCOME (R162). -/
def execOutcome (k : Byte) (s : State) : Host.Outcome State Fault Refusal :=
  .next (s.byFrame (.outcome k))

/-- EVENT_NEXT (R175). -/
def execEventNext (s : State) : Host.Outcome State Fault Refusal := .next (s.byFrame .eventNext)

/-- FLAGS_CLEAR (R173). -/
def execFlagsClear (mask : BitVec 16) (s : State) : Host.Outcome State Fault Refusal :=
  .next (s.byFrame (.flagsClear mask))

/-- ALERT_MASK_SET (R174). -/
def execAlertMaskSet (mask : BitVec 16) (s : State) : Host.Outcome State Fault Refusal :=
  .next (s.byFrame (.alertMaskSet mask))

/-- RESTART (R144). -/
def execRestart (s : State) : Host.Outcome State Fault Refusal := .next (s.byFrame .restart)

end Sys2Proof.Machine
end

