-- ==== Sys2Proof/Machine/MemoryPort.lean ====
section
/-! DEFINITION. The meanings of the memory port's commands (R112, R115 to R120). -/

namespace Sys2Proof.Machine

/-- ISSUE_REQUEST (R112, R113): every queued request that can take a tag is issued (LOG 18). -/
def execIssueRequest (s : State) : Host.Outcome State Fault Refusal := .next s.offerTags

/-- A response answers the request holding the tag (R115 to R117); MEMORY_ERROR is the last event of
the act (R123, LOG 19). -/
def State.answeredRequest (t : Nat) (r : Request) (status : MemStatus) (data : Block) (s : State) :
    State :=
  match status with
  | .ok => ((s.releaseTag t).handOk r data).endAct
  | .error => (((s.releaseTag t).handBad r false).endAct).raise (s.requestRecord .memoryError t r)

/-- A late response frees its tag, and its tie's entry counts one stray less (R120). -/
def State.lateResponse (t : Nat) (tie : Option Tie) (s : State) : State :=
  match tie with
  | some tie => ((s.releaseTag t).lateArrival tie).endAct
  | none => (s.releaseTag t).endAct

/-- MEMORY_RESPONSE (R115): matched by its tag alone; on a free tag, or a value that names no tag
(R177), it is discarded. -/
def execMemoryResponse (tag : BitVec 6) (status : MemStatus) (data : Block) (s : State) :
    Host.Outcome State Fault Refusal :=
  match s.port.tags[tag.toNat]? with
  | some (.inUse r _ _) => .next (s.answeredRequest tag.toNat r status data)
  | some (.poisoned tie) => .next (s.lateResponse tag.toNat tie)
  | some .free | none => .next s

/-- The response limit of an issued request expires (R119). -/
def State.requestTimedOut (t : Nat) (r : Request) (s : State) : State :=
  (((s.setTag t (.poisoned r.tie)).handBad r true).endAct).raise (s.requestRecord .memoryTimeout t r)

/-- RESPONSE_LIMIT_EXPIRY (R119): only a tag in use has a timer running. -/
def execResponseLimitExpiry (tag : BitVec 6) (s : State) : Host.Outcome State Fault Refusal :=
  match s.port.tags[tag.toNat]? with
  | some (.inUse r at_ limit) => .next ((s.advanceTo (at_ + limit)).requestTimedOut tag.toNat r)
  | some (.poisoned _) | some .free | none => .next s

end Sys2Proof.Machine
end

