-- ==== Sys2Proof/Machine/Supply.lean ====
section
/-! DEFINITION. The meanings of power control's inputs (R140 to R144, R151, R152, R181) and of the
outcome store's completions (R156 to R159). -/

namespace Sys2Proof.Machine

/-- The supply is reported above the good level, or not (R140). -/
def State.setSupply (good : Bool) (s : State) : State :=
  { s with pins := { s.pins with supplyGood := good } }

/-- The level of PFAIL_N changes (R140). -/
def State.setPfail (high : Bool) (s : State) : State :=
  { s with pins := { s.pins with pfailHigh := high } }

/-- The level of RESET_N changes (R140). -/
def State.setReset (high : Bool) (s : State) : State :=
  { s with pins := { s.pins with resetHigh := high } }

/-- POR (R141, R142), the rise of the supply from OFF to good: every block takes its POR values and INIT
begins; outside OFF it changes nothing (LOG 1). -/
def execPor (straps : BitVec 2) (s : State) : Host.Outcome State Fault Refusal :=
  if s.power.device = .off then
    .next ((s.setSupply true).volatileAtPor .init (some .clear) (strappedAddress straps)).leaveClearStep
  else .next s

/-- SUPPLY_LOSS (R141): OFF from every state; all volatile state is lost, and a program or an erase in
progress is cut. -/
def execSupplyLoss (s : State) : Host.Outcome State Fault Refusal :=
  if s.power.device = .off then .next s
  else .next (((s.setSupply false).cutStore).volatileAtPor .off none 0x5C#7)

/-- SUPPLY_TRIP (R143, R144, R151, R152); in OFF it changes nothing (LOG 1). -/
def execSupplyTrip (s : State) : Host.Outcome State Fault Refusal :=
  match s.power.device with
  | .off => .next s
  | .init => .next ((s.setSupply false).cutInit .power)
  | .ready => .next ((s.setSupply false).beginDrain .power)
  | .drain => .next (s.setSupply false)
  | .spent => .next (s.setSupply false).settleCheck

/-- PFAIL_N_ASSERTION (R143, R144, R151, R152), also where the line stands low already (LOG 31). -/
def execPfailNAssertion (s : State) : Host.Outcome State Fault Refusal :=
  match s.power.device with
  | .off => .next (s.setPfail false)
  | .init => .next ((s.setPfail false).cutInit .pfail)
  | .ready => .next ((s.setPfail false).beginDrain .pfail)
  | .drain => .next (s.setPfail false)
  | .spent => .next (s.setPfail false).settleCheck

/-- A RESET_N assertion is remembered (R151, R152). -/
def State.rememberReset (s : State) : State :=
  { s with power := { s.power with resetRemembered := true } }

/-- RESET_N_ASSERTION (R143, R144, R151, R152), also where the line stands low already (LOG 31). -/
def execResetNAssertion (s : State) : Host.Outcome State Fault Refusal :=
  match s.power.device with
  | .off => .next (s.setReset false)
  | .init => .next (s.setReset false).restartInit
  | .ready => .next ((s.setReset false).beginDrain .reset)
  | .drain => .next (s.setReset false).rememberReset
  | .spent => .next (s.setReset false).rememberReset.settleCheck

/-- SUPPLY_GOOD (R140, R151, R152). In SPENT the settle timer starts from 0, also where it ran: a supply that
rises above the good level has stood below it, which stopped the timer (LOG 30). In OFF it changes nothing:
there the rise of the supply to good comes as the command POR (R141, LOG 1). -/
def execSupplyGood (s : State) : Host.Outcome State Fault Refusal :=
  match s.power.device with
  | .off => .next s
  | .init | .ready | .drain => .next (s.setSupply true)
  | .spent => .next (s.setSupply true).startSettle

/-- PFAIL_N_RISE (R152, R181). -/
def execPfailNRise (s : State) : Host.Outcome State Fault Refusal := .next (s.setPfail true).settleCheck

/-- INIT leaves step 1 once RESET_N is high (R143). -/
def State.resetReleased (s : State) : State :=
  if s.power.device = .init ∧ s.power.initStep = some .clear then s.leaveClearStep else s

/-- RESET_N_RISE (R143, R152, R181). -/
def execResetNRise (s : State) : Host.Outcome State Fault Refusal :=
  .next (s.setReset true).resetReleased.settleCheck

/-- The settle time, 10 ms (R152). -/
def settleTime : Nat := 10

/-- SETTLE_TIMER_EXPIRY (R152): a settle timer running in SPENT ends it for INIT. -/
def execSettleTimerExpiry (s : State) : Host.Outcome State Fault Refusal :=
  match s.power.device, s.power.settleSince with
  | .spent, some since => .next ((s.advanceTo (since + settleTime)).beginInit s.power.resetRemembered)
  | _, _ => .next s

/-- SLOT_PROGRAM_DONE (R150, R156): after the END record the part enters SPENT; after the BEGIN record
power control tests ROLLING_BACK. -/
def execSlotProgramDone (readBack : Block) (s : State) : Host.Outcome State Fault Refusal :=
  match s.store.op with
  | .programming slot isEnd bytes =>
    if isEnd then .next (s.endProgram slot bytes readBack).endDrain
    else .next (s.endProgram slot bytes readBack).endAct
  | .idle | .scanning | .erasing _ _ => .next s

/-- SCAN_DONE (R158). -/
def execScanDone (s : State) : Host.Outcome State Fault Refusal :=
  match s.store.op with
  | .scanning => .next s.endScan.storeStepDone
  | .idle | .erasing _ _ | .programming _ _ _ => .next s

/-- SECTOR_ERASE_DONE (R157 to R159). -/
def execSectorEraseDone (readBack : Vector Block 16) (s : State) : Host.Outcome State Fault Refusal :=
  match s.store.op with
  | .erasing sector why => .next (s.endErase sector why readBack).storeStepDone
  | .idle | .scanning | .programming _ _ _ => .next s

end Sys2Proof.Machine
end

