-- ==== Sys2Proof/Machine/Dispatch.lean ====
section
/-! DEFINITION. The dispatch of every command to its meaning, one arm per row of the table. -/

namespace Sys2Proof.Machine

def exec (i : Instr) (s : State) : Host.Outcome State Fault Refusal :=
  match i with
  | .hostWriteRequest w => Sys2Proof.Machine.execHostWriteRequest w s
  | .hostReadRequest r => Sys2Proof.Machine.execHostReadRequest r s
  | .hostResponseTaken ch => Sys2Proof.Machine.execHostResponseTaken ch s
  | .issueRequest => Sys2Proof.Machine.execIssueRequest s
  | .memoryResponse tag status data => Sys2Proof.Machine.execMemoryResponse tag status data s
  | .responseLimitExpiry tag => Sys2Proof.Machine.execResponseLimitExpiry tag s
  | .holdLimitExpiry p => Sys2Proof.Machine.execHoldLimitExpiry p s
  | .ageExpiry n => Sys2Proof.Machine.execAgeExpiry n s
  | .rollbackNAssertion => Sys2Proof.Machine.execRollbackNAssertion s
  | .surveyEnd raw => Sys2Proof.Machine.execSurveyEnd raw s
  | .zeroSurveyEnd reading => Sys2Proof.Machine.execZeroSurveyEnd reading s
  | .por straps => Sys2Proof.Machine.execPor straps s
  | .supplyLoss => Sys2Proof.Machine.execSupplyLoss s
  | .supplyTrip => Sys2Proof.Machine.execSupplyTrip s
  | .pfailNAssertion => Sys2Proof.Machine.execPfailNAssertion s
  | .resetNAssertion => Sys2Proof.Machine.execResetNAssertion s
  | .supplyGood => Sys2Proof.Machine.execSupplyGood s
  | .pfailNRise => Sys2Proof.Machine.execPfailNRise s
  | .resetNRise => Sys2Proof.Machine.execResetNRise s
  | .settleTimerExpiry => Sys2Proof.Machine.execSettleTimerExpiry s
  | .slotProgramDone readBack => Sys2Proof.Machine.execSlotProgramDone readBack s
  | .scanDone => Sys2Proof.Machine.execScanDone s
  | .sectorEraseDone readBack => Sys2Proof.Machine.execSectorEraseDone readBack s
  | .readFrame address acks ended => Sys2Proof.Machine.execReadFrame address acks ended s
  | .linkStuck => Sys2Proof.Machine.execLinkStuck s
  | .requestFrame address bytes ended => Sys2Proof.Machine.execRequestFrame address bytes ended s
  | .status part => Sys2Proof.Machine.execStatus part s
  | .streamInfo n => Sys2Proof.Machine.execStreamInfo n s
  | .streamSet n policy holdLimit quota ageLimit => Sys2Proof.Machine.execStreamSet n policy holdLimit quota ageLimit s
  | .regionInfo w => Sys2Proof.Machine.execRegionInfo w s
  | .regionSet w enable kind base count => Sys2Proof.Machine.execRegionSet w enable kind base count s
  | .sourceMapInfo => Sys2Proof.Machine.execSourceMapInfo s
  | .sourceMapSet source stream => Sys2Proof.Machine.execSourceMapSet source stream s
  | .abort n => Sys2Proof.Machine.execAbort n s
  | .resumeRetry n => Sys2Proof.Machine.execResumeRetry n s
  | .resumeDiscard n => Sys2Proof.Machine.execResumeDiscard n s
  | .failedList n start => Sys2Proof.Machine.execFailedList n start s
  | .entryImage entry half => Sys2Proof.Machine.execEntryImage entry half s
  | .meterSet period reserve cost cap => Sys2Proof.Machine.execMeterSet period reserve cost cap s
  | .calibrate => Sys2Proof.Machine.execCalibrate s
  | .timeoutSet limit => Sys2Proof.Machine.execTimeoutSet limit s
  | .outcome k => Sys2Proof.Machine.execOutcome k s
  | .eventNext => Sys2Proof.Machine.execEventNext s
  | .flagsClear mask => Sys2Proof.Machine.execFlagsClear mask s
  | .alertMaskSet mask => Sys2Proof.Machine.execAlertMaskSet mask s
  | .restart => Sys2Proof.Machine.execRestart s

end Sys2Proof.Machine
end

