-- ==== Sys2Proof/Machine/Step.lean ====
section
/-! DEFINITION. One step: the command at the front of the queue is taken and executed; with nothing
waiting, one millisecond passes (LOG 2, LOG 24). -/

namespace Sys2Proof.Machine

/-- A millisecond passes with no command (LOG 2, LOG 24). -/
def State.idle (s : State) : State := { s with now := s.now + 1 }

/-- The step of the block: the oldest waiting command acts on the state with the rest of the queue. -/
def step (s : State) : Host.Outcome State Fault Refusal :=
  match s.pending with
  | [] => .next s.idle
  | c :: rest => exec c { s with pending := rest }

/-- The command a word spells is put at the front of the queue; a word that spells none changes
nothing (LOG 26). -/
def State.withFetchWord (s : State) (nbits w : Nat) : State :=
  match Sys2Proof.decodeTableWord nbits w with
  | some c => { s with pending := c :: s.pending }
  | none => s

end Sys2Proof.Machine
end

