-- ==== Sys2Proof/Safety.lean ====
section
/-! DEFINITION. What a safe run keeps: the bounds and forms the spec gives the part's collections, the
device state with what belongs to it, and the moves of the device state. And what the statements are made
with: their conditions, the parts of a next state, and what an entry into ROLLING or an expiry leads to. -/

namespace Sys2Proof.Machine

/-! ### The journal's canonical form (R1, R7) -/

/-- The journal's list of working entries is in its one canonical form: indexes strictly rising and
below 512, and no two entries with one line (R1, R7). -/
abbrev Journal.canonical (j : Journal) : Prop :=
  j.entries.Pairwise (fun a b => a.index < b.index)
    ∧ (∀ e ∈ j.entries, e.index < journalSize)
    ∧ j.entries.Pairwise (fun a b => a.line ≠ b.line)

/-! ### Bounds (R59, R97, R175) -/

/-- At most 32 slots of each kind are held, and at most four restore positions (R59, R97). -/
abbrev State.sizesOk (s : State) : Prop :=
  s.host.writeSlots.length ≤ slotsPerKind ∧ s.host.readSlots.length ≤ slotsPerKind
    ∧ s.engine.positions.length ≤ restorePositions

/-- At most 16 event records are held, and the unused positions of the flags and of the alert mask are
0 (R173, R174, R175). -/
abbrev State.reportingOk (s : State) : Prop :=
  s.mgmt.events.length ≤ eventQueueSize ∧ s.mgmt.flags &&& ~~~usedFlags = 0#16
    ∧ s.mgmt.mask &&& ~~~usedFlags = 0#16

/-! ### Reserved tags (R111, R113, R121) -/

/-- What a reserved tag can hold: nothing, a restore write, or the poison of one, which has no tie. -/
def Tag.fitsReserved : Tag → Bool
  | .free => true
  | .inUse r _ _ => r.isRestore
  | .poisoned tie => tie.isNone

/-- Reserved tags are given to restore writes alone (R111, R113). -/
abbrev MemPort.reservedOk (m : MemPort) : Prop :=
  ∀ i : Fin 48, generalTags ≤ i.val → m.tags[i].fitsReserved = true

/-! ### The device state (R139, R142, R146, R150, R152) -/

/-- The store's operation fits the device state: it scans and erases in step 2 of INIT alone, and
programs in DRAIN alone (R156, R157, R158). -/
def State.storeOpFits (s : State) : Bool :=
  match s.store.op with
  | .idle => true
  | .scanning | .erasing _ _ => s.power.initStep == some InitStep.store
  | .programming _ _ _ => s.power.device == DeviceState.drain

/-- Power control's items fit the device state: an INIT step in INIT alone, a drain phase in DRAIN
alone, a settle timer in SPENT at most; and the store's operation fits it too. -/
abbrev State.deviceOk (s : State) : Prop :=
  (s.power.initStep.isSome = true ↔ s.power.device = DeviceState.init)
    ∧ (s.power.phase ≠ DrainPhase.none ↔ s.power.device = DeviceState.drain)
    ∧ (s.power.settleSince.isSome = true → s.power.device = DeviceState.spent)
    ∧ s.storeOpFits = true

/-- Between commands no re-examination pass is owed (R84). -/
abbrev State.noPassOwed (s : State) : Prop := s.wc.passDue = false

/-- Everything a safe run keeps. -/
abbrev State.safe (s : State) : Prop :=
  s.journal.canonical ∧ s.sizesOk ∧ s.reportingOk ∧ s.port.reservedOk ∧ s.deviceOk ∧ s.noPassOwed

/-! ### Moves of the device state (Table 8-1) -/

/-- The device states one command can lead to: those of Table 8-1, and SPENT from READY, where a drain
with nothing to wait for begins and ends in one act (R147 to R150). -/
def DeviceState.movesTo : DeviceState → DeviceState → Bool
  | .off, .off | .off, .init => true
  | .init, .init | .init, .ready | .init, .spent | .init, .off => true
  | .ready, .ready | .ready, .drain | .ready, .spent | .ready, .off => true
  | .drain, .drain | .drain, .spent | .drain, .off => true
  | .spent, .spent | .spent, .init | .spent, .off => true
  | _, _ => false

/-! ### Quiet conditions -/

/-- The rollback engine has neither a job nor a lingering entry to take up. -/
abbrev State.engineIdle (s : State) : Prop := s.engine.queue = [] ∧ s.engine.lingerPending = []

/-- No request waits on the host bus. -/
abbrev State.busEmpty (s : State) : Prop := s.bus.writes = [] ∧ s.bus.reads = []

/-- A request frame is not being collected, so that a start ends nothing (Table 10-1). -/
abbrev State.linkIdle (s : State) : Prop := s.mgmt.receiver = .idle

/-- The receiver runs, and no frame is in progress (R165). -/
abbrev State.linkOpen (s : State) : Prop := s.power.device ≠ .off ∧ s.linkIdle

/-! ### Conditions the statements are made under -/

/-- The host port can take a request at once: READY, nothing waiting on the bus, no pass owed. -/
abbrev State.hostOpen (s : State) : Prop := s.power.device = .ready ∧ s.noPassOwed ∧ s.busEmpty

/-- Outside DRAIN and with no pass owed, the end of an act adds nothing to it (R84, R147, R149). -/
abbrev State.quiet (s : State) : Prop := s.noPassOwed ∧ s.power.device ≠ .drain

/-- A write under a pair not outstanding finds the port open and a write slot free (R59, R60). -/
abbrev State.canTakeWrite (p : Pair) (s : State) : Prop :=
  s.hostOpen ∧ s.host.writeSlots.length < slotsPerKind ∧ p ∉ s.host.writePairs

/-- The kind of the enabled window a line lies in; absent outside every window (R64). -/
abbrev Classifier.kindAt (l : LineAddr) (c : Classifier) : Option WindowKind :=
  (c.windowOf l).map (·.kind)

/-- The write is a journaled write of stream `n` (R62 case 6). -/
abbrev Classifier.journals (w : WriteReq) (n : StreamId) (c : Classifier) : Prop :=
  w.mark = .none ∧ w.mask ≠ 0#64 ∧ c.kindAt w.line = some .journal
    ∧ c.streamOf w.pair.source = some n

/-- The write is a marker of stream `n` with a mark (R62 case 1). -/
abbrev Classifier.marks (w : WriteReq) (n : StreamId) (m : MarkerKind) (c : Classifier) : Prop :=
  w.mark = (match m with
    | .commit => Mark.commit
    | .abort => Mark.abort)
    ∧ w.mask = 0#64 ∧ c.streamOf w.pair.source = some n

/-- No held write of the same source waits for the same line, and the pair is not held (R72). -/
abbrev State.lineClear (w : WriteReq) (s : State) : Prop :=
  (∀ x ∈ s.wc.hold, x.pair ≠ w.pair)
    ∧ ∀ x ∈ s.wc.hold, x.line? = some w.line → x.pair.source ≠ w.pair.source

/-- The conditions of admission but for READY (R11). -/
abbrev State.hasRoom (n : StreamId) (s : State) : Prop :=
  s.entryCount + 1 ≤ s.effectiveCeiling ∧ s.streamEntries n + 1 ≤ (s.stream n).quota

/-- The issue queue is empty and `t` is the lowest-numbered free general tag (R111, R112). -/
abbrev State.canIssue (t : Nat) (s : State) : Prop :=
  s.port.queue = [] ∧ s.port.freeGeneral? = some t

/-- No request of the issue queue can take a tag: no general tag is free, and no reserved tag is free for a
restore write that waits (R112, R113). -/
abbrev State.queueWaits (s : State) : Prop :=
  s.port.freeGeneral? = none
    ∧ (s.port.freeReserved? = none ∨ ∀ q ∈ s.port.queue, q.isRestore = false)

/-- The restore positions and the reserved tags are all free (R97, R111). -/
abbrev State.restoresFree (s : State) : Prop :=
  s.engine.positions = [] ∧ ∀ i : Fin 48, 44 ≤ i.val → s.port.tags[i] = .free

/-- The current job goes on settling, alone in the restore queue: an EPOCH job of a stream with writes in
flight (R95). -/
abbrev State.settles (j : Job) (s : State) : Prop :=
  s.engine.queue = [j] ∧ j.kind = .epoch ∧ j.phase = .settle ∧ 0 < (s.stream j.stream).inFlight

/-- `l` lists the entries that fulfil `p`, newest first: by the smaller age, and at one age by the higher
index (R3). -/
abbrev Journal.newestFirst (l : List Entry) (p : Entry → Bool) (j : Journal) : Prop :=
  (∀ e ∈ l, e ∈ j.entries ∧ p e = true) ∧ (∀ e ∈ j.entries, p e = true → e ∈ l)
    ∧ l.Pairwise fun a b => (j.counter - a.sequence).toNat < (j.counter - b.sequence).toNat
      ∨ ((j.counter - a.sequence).toNat = (j.counter - b.sequence).toNat ∧ b.index < a.index)

/-- `l` lists the LIVE entries of stream `n` and an epoch, newest first, with at least one entry and none
in flight: what an EPOCH job selects when it enters RESTORE (R18, R96). -/
abbrev Journal.selectable (l : List Entry) (n : StreamId) (ep : EpochNo) (j : Journal) : Prop :=
  j.newestFirst l (fun e => e.stream == n && e.epoch == ep && e.isIn .live) ∧ l ≠ []
    ∧ ∀ e ∈ l, e.inFlight = 0

/-- The meter stands in no shortfall, and the entries lie within the ceiling (R136). -/
abbrev State.withinCeiling (s : State) : Prop :=
  s.meter.shortfall = false ∧ s.entryCount ≤ s.effectiveCeiling

/-- The rollback engine is finished: no job, no lingering entry to take up, no position held (R107). -/
abbrev State.engineFinished (s : State) : Prop := s.engineIdle ∧ s.engine.positions = []

/-- The memory port has no work outstanding: nothing queued, and every tag free or poisoned (R125). -/
abbrev MemPort.nothingOutstanding (m : MemPort) : Prop :=
  m.queue = [] ∧ ∀ i : Fin 48, (m.tags[i].isFree || m.tags[i].isPoisoned) = true

/-- The tie of a poisoned tag. -/
def Tag.tie? : Tag → Option Tie
  | .poisoned tie => tie
  | .free | .inUse _ _ _ => none

/-- No tag is tied to entry `i` (R121). -/
abbrev MemPort.untiedFrom (i : Nat) (m : MemPort) : Prop :=
  ∀ k : Fin 48, (m.tags[k].tie?).all (·.entry != i) = true

/-! ### The preparation of the outcome store (R158, R159, R161) -/

/-- Slot `i` is in state `x` by the slot table. -/
abbrev Store.isState (i : Fin 64) (x : SlotState) (st : Store) : Prop := st.table[i.val]? = some x

/-- What a slot's bytes say as a record (R180). -/
abbrev Store.recordAt (i : Fin 64) (st : Store) : SlotRecord := readSlot i st.slots[i]

/-- Slot `i` holds the newest VALID record, which every other one is older than (R155). -/
abbrev Store.newestAt (i : Fin 64) (st : Store) : Prop :=
  st.isState i .valid
    ∧ ∀ j, j ≠ i → st.isState j .valid → (st.recordAt i).newerThan (st.recordAt j) = true

/-- `c` is the cause of the BEGIN record of a number, and NONE when none is VALID (R161). -/
abbrev Store.causeIs (seq : BitVec 32) (c : DrainCause) (st : Store) : Prop :=
  (∀ j, st.isState j .valid → (st.recordAt j).isEnd = false → (st.recordAt j).seq = seq →
      (st.recordAt j).cause = c)
    ∧ ((∀ j, st.isState j .valid → (st.recordAt j).isEnd = false → (st.recordAt j).seq ≠ seq) →
      c = .none)

/-- A torn sector: no VALID slot, and at least one that is not ERASED (R158). -/
abbrev Store.tornAt (x : Fin 4) (st : Store) : Prop :=
  (∀ i : Fin 64, i.val / 16 = x.val → ¬ st.isState i .valid)
    ∧ ∃ i : Fin 64, i.val / 16 = x.val ∧ ¬ st.isState i .erased

/-- The store begins to erase a sector, whose slots hold no record from then on (R157, R162; LOG 17). -/
abbrev Store.erasingFrom (x : Fin 4) (why : EraseWhy) (st : Store) : Store :=
  { st with
    op := .erasing x why
    table := st.table.mapIdx fun i y => if i / 16 = x.val then .invalid else y }

/-- What steps 1, 5 and 6 of preparation and the erase of step 3 are taken from: the start point, the
drain sequence number, the report, and the sector after the newest record's (R159, R161). -/
abbrev Store.startsAt (start : Fin 64) (seq : BitVec 32) (report : LastDrain) (sector : Fin 4)
    (st : Store) : Prop :=
  ((∀ i, ¬ st.isState i .valid)
      ∧ start = 0 ∧ seq = 0#32 ∧ report = ⟨.none, none, .none⟩ ∧ sector = 0)
    ∨ ∃ i : Fin 64, ∃ c : DrainCause,
      st.newestAt i ∧ st.causeIs (st.recordAt i).seq c
        ∧ start = i + 1 ∧ seq = (st.recordAt i).seq + 1#32 ∧ sector = sectorOf i + 1
        ∧ report = ⟨if (st.recordAt i).isEnd then
            (if (st.recordAt i).failed = 0 then .complete else .partialDrain) else .interrupted,
          some (st.recordAt i).seq, c⟩

/-- The outcome of an act that leaves the store, in step 2 of INIT, with the slot table of `u` and its
operation over: the lowest-numbered torn sector is erased (LOG 33); with none torn the ring is prepared, and
INIT goes on to step 3, or a sector is erased for step 3 or step 4 of preparation (R158, R159, R161). -/
def State.preparesTo (u : State) (o : Host.Outcome State Fault Refusal) : Prop :=
  (∀ x, u.store.tornAt x → (∀ y, y < x → ¬ u.store.tornAt y) →
      o = .next { u with store := u.store.erasingFrom x .repair })
  ∧ ((∀ x, ¬ u.store.tornAt x) →
    ∀ (start : Fin 64) (seq : BitVec 32) (report : LastDrain) (sector : Fin 4),
      u.store.startsAt start seq report sector →
      (∀ d : Fin 64, u.store.isState (start + d) .erased →
        (∀ c, c < d → ¬ u.store.isState (start + c) .erased) →
        let found := { u.store with next := start + d }
        (u.store.isState (start + d + 1) .erased → o = .next { u with
          store := { found with drainSeq := seq, report := report }
          power := { u.power with initStep := some .calibrate }
          meter := { u.meter with
            mode := .calibrating ⟨u.now, u.meter.period, none, false⟩, stale := true } })
        ∧ (¬ u.store.isState (start + d + 1) .erased → o = .next { u with
          store := found.erasingFrom (sectorOf (start + d) + 1) .roomForTwo }))
      ∧ ((∀ i, ¬ u.store.isState i .erased) → o = .next { u with
          store := u.store.erasingFrom sector .noErasedSlot }))

/-! ### Parts of a next state, as the statements name them -/

/-- The host port with a write accepted and not yet answered (R59, R60). -/
def HostPort.withWrite (w : WriteReq) (h : HostPort) : HostPort :=
  { h with writeSlots := h.writeSlots ++ [⟨w, false, false⟩] }

/-- The host port with a write accepted and answered at once (R58). -/
def HostPort.withAnswered (w : WriteReq) (st : WriteStatus) (h : HostPort) : HostPort :=
  { h with
    writeSlots := h.writeSlots ++ [⟨w, false, true⟩]
    writeResponses := h.writeResponses ++ [⟨w.pair, st, false⟩] }

/-- The host port once a response of the write channel is taken: `rest` is left in the channel, and the
answered slot of the response's pair and duplicate mark is free (R58, R60). -/
def HostPort.withoutWrite (r : WriteResponse) (rest : List WriteResponse) (h : HostPort) : HostPort :=
  { h with
    writeResponses := rest
    writeSlots := h.writeSlots.eraseP fun x =>
      x.req.pair == r.pair && x.duplicate == r.duplicate && x.answered }

/-- The host port once a response of the read channel is taken (R58, R60). -/
def HostPort.withoutRead (r : ReadResponse) (rest : List ReadResponse) (h : HostPort) : HostPort :=
  { h with
    readResponses := rest
    readSlots := h.readSlots.eraseP fun x =>
      x.req.pair == r.pair && x.duplicate == r.duplicate && x.answered }

/-- The memory port with a request of the queue issued on a tag: `rest` is left in the queue, the tag is in
use from now with the limit in force, and the request stands on the request channel (R112, R114, R118). -/
def MemPort.taking (k : Nat) (r : Request) (rest : List Request) (s : State) (m : MemPort) : MemPort :=
  { m with
    queue := rest
    tags := m.tags.setIfInBounds k (.inUse r s.now m.limit)
    issued := m.issued ++ [s.busRequest k r] }

/-- The memory port with a request issued on a tag: the tag is in use from `now` with the limit in
force, and the request stands on the request channel (R114, R118). -/
def MemPort.withIssued (t : Nat) (r : Request) (now : Nat) (data : Option (ByteMask × Block))
    (m : MemPort) : MemPort :=
  { m with
    tags := m.tags.setIfInBounds t (.inUse r now m.limit)
    issued := m.issued ++ [⟨BitVec.ofNat 6 t, r.line, data⟩] }

/-- The memory port with a request at the young end of the issue queue (R112). -/
def MemPort.withQueued (r : Request) (m : MemPort) : MemPort := { m with queue := m.queue ++ [r] }

/-- The memory port with a tag set. -/
def MemPort.withTag (t : Nat) (x : Tag) (m : MemPort) : MemPort :=
  { m with tags := m.tags.setIfInBounds t x }

/-- The state in which entries have been selected in the order of `l`: each is RESTORING, holds a restore
position, and its before-image is written whole to its line, on the reserved tags from 44 on (R96, R97). -/
def State.restoring (l : List Entry) (s : State) : State :=
  let entries := s.journal.entries.map fun e =>
    if l.any (·.index == e.index) then e.moveTo .restoring else e
  { s with
    journal := { s.journal with entries := entries }
    engine := { s.engine with positions := s.engine.positions ++ l.map fun e => ⟨e.index, false⟩ }
    port := l.zipIdx.foldl (fun m x => m.withIssued (generalTags + x.2)
      (.restore x.1.index x.1.line false) s.now
      (some (BitVec.allOnes 64, x.1.image.getD zeroBlock))) s.port }

/-- The epoch controller with the record of a stream replaced. -/
def EpochCtl.withStream (n : StreamId) (r : Stream) (c : EpochCtl) : EpochCtl :=
  { c with streams := c.streams.set n r }

/-- A stream has opened an epoch (R30). -/
def State.opened (n : StreamId) (s : State) : State :=
  { s with epochs := { (s.epochs.withStream n { s.stream n with
      state := .open, epoch := (s.stream n).epoch + 1#16, opening := s.epochs.opening
      age := .running s.now, doomed := false }) with opening := s.epochs.opening + 1#32 } }

/-! ### What the settle timer and an entry into SPENT lead to (R152) -/

/-- The three conditions of leaving SPENT (R152). -/
abbrev Pins.settled (p : Pins) : Prop := p.supplyGood = true ∧ p.pfailHigh = true ∧ p.resetHigh = true

/-- In SPENT with the settle timer stopped: where the three conditions hold the supply is read, and unless it
has sagged, which is a free value, the timer starts from 0 (R140, R152; LOG 30). -/
def State.settling (s : State) : State :=
  if s.pins.settled then
    let good := !Config.supplySagged s.freeCount
    { s with
      pins := { s.pins with supplyGood := good }
      freeCount := s.freeCount + 1
      power := { s.power with settleSince := if good then some s.now else none } }
  else { s with power := { s.power with settleSince := none } }

/-- SPENT has been entered, with the meter RUNNING or CALIBRATING (R150, R152). -/
def State.inSpent (s : State) : State :=
  ({ s with power := { s.power with device := .spent, initStep := none, phase := .none } }).settling

/-! ### What an entry into ROLLING and an expiry lead to (R45, R81) -/

/-- The stream is in the state that an origin names (R45). -/
abbrev State.isAt (n : StreamId) (o : Origin) (s : State) : Prop :=
  (s.stream n).state = match o with
    | .open => StreamState.open
    | .committing => StreamState.committing

/-- Stream `n` can enter ROLLING by an act that does nothing else: the act ends with it, no LINGER entry
waits for a position, and everything held is a member of the stream (R45, R84, R98). -/
abbrev State.canRoll (n : StreamId) (s : State) : Prop :=
  s.quiet ∧ s.engine.lingerPending = [] ∧ ∀ it ∈ s.wc.hold, it.stream = n ∧ it.epoch.isSome = true

/-- Everything held is answered LOST in arrival order, which dooms stream `n`'s epoch if anything was
(R34, R45). -/
def State.losingHeld (n : StreamId) (s : State) : State :=
  { s with
    host := s.wc.hold.foldl (fun h it => h.answerWrite it.pair .lost) s.host
    wc := { s.wc with hold := [] }
    epochs := if s.wc.hold = [] then s.epochs
      else s.epochs.withStream n { s.stream n with doomed := true } }

/-- Stream `n` has entered ROLLING with a cause from the state of `o`, and its EPOCH job with phase `p`
stands behind `before` in the restore queue (R45, R93). -/
def State.rolling (n : StreamId) (o : Origin) (c : RollCause) (before : List Job) (p : JobPhase)
    (s : State) : State :=
  { s with
    epochs := s.epochs.withStream n { s.stream n with
      state := .rolling, origin := some o, lossCause := some c
      age := .stopped ((s.stream n).age.valueAt s.now) }
    engine := { s.engine with
      queue := before ++ [⟨.epoch, n, (s.stream n).epoch, c, p, [], 0, 0, false⟩] } }

/-- Stream `n` has been rolled back with a cause from the state of `o` by a job that had no entry to
restore: it is CLOSED after an ABORT marker or from COMMITTING, and else ABANDONED with notice owed; its
kept marker is answered, and EPOCH_LOST raised, by the cause (R47, R100, R101, Tables 2-3 and 5-3). -/
def State.rolledBack (n : StreamId) (o : Origin) (c : RollCause) (s : State) : State :=
  let ended := { s.stream n with
    kept := none, origin := none, lossCause := some c, lossRestored := 0, lossFailed := 0 }
  { s with
    host := match (s.stream n).kept with
      | some k => s.host.answerWrite k.pair (if c = .mark then .ok else .lost)
      | none => s.host
    epochs := s.epochs.withStream n (if c = .mark ∨ o = .committing then
        { ended with state := .closed, age := .stopped 0, doomed := false, noticeOwed := false }
      else { ended with
        state := .abandoned, noticeOwed := true
        age := .stopped ((s.stream n).age.valueAt s.now) })
    mgmt := if c = .mgmt ∨ c = .line ∨ c = .aged then
        s.mgmt.record ⟨.epochLost, some n, some (s.stream n).epoch, none, none, .cause c⟩
      else s.mgmt }

/-- The outcome of an act that ends with the entry of stream `n` into ROLLING from the state `s`, with
`canRoll`: the held members are answered LOST, and the job waits in QUEUED behind a current job that
settles. Alone in the restore queue, it waits in SETTLE while the epoch has a write in flight or a capture.
With neither, it enters RESTORE and selects the four newest of the epoch's LIVE entries, or all of fewer;
with no LIVE and no FAILED entry it ends at once. Each case is a next state, given in full (R45, R93 to R98,
R100). -/
def State.rollsBackTo (n : StreamId) (o : Origin) (c : RollCause) (s : State)
    (out : Host.Outcome State Fault Refusal) : Prop :=
  let u := s.losingHeld n
  let r := u.stream n
  (∀ j, u.settles j → out = .next (u.rolling n o c [j] .queued))
  ∧ (u.engine.queue = [] →
    ((0 < r.inFlight ∨ u.hasCapturing n r.epoch = true) → out = .next (u.rolling n o c [] .settle))
    ∧ (r.inFlight = 0 → u.hasCapturing n r.epoch = false →
      (∀ es, u.restoresFree → u.journal.selectable es n r.epoch → u.journal.canonical →
        out = .next ((u.rolling n o c [] .restore).restoring (es.take 4)))
      ∧ ((∀ e ∈ u.journal.entries, e.stream = n → e.epoch = r.epoch → e.isIn .live = false) →
        (∀ q ∈ u.engine.positions, q.linger = true) → u.streamFailed n = 0 →
        out = .next (u.rolledBack n o c))))

/-- The held item `it`, alone in the hold queue, has expired: it is answered REFUSED and removed, its epoch
doomed if it belonged to one, and HOLD_EXPIRED raised (R34, R81). -/
def State.expired (it : HeldItem) (s : State) : State :=
  { s with
    host := s.host.answerWrite it.pair .refused
    wc := { s.wc with hold := [] }
    epochs := if it.epoch.isSome then
        s.epochs.withStream it.stream { s.stream it.stream with doomed := true }
      else s.epochs
    mgmt := s.mgmt.record
      ⟨.holdExpired, some it.stream, it.epoch, it.line?, none, .reason it.reason⟩ }

/-- The held write `it` of line `l`, alone in the hold queue, has been admitted in a pass: it has left the
queue as the trigger of a new entry, and its capture read is issued on tag `t` (R12, R74, R85). -/
def State.admitted (it : HeldItem) (l : LineAddr) (t : Nat) (s : State) : State :=
  let i := lowestFree 0 s.journal.entries
  let created : Entry := ⟨i, l, it.stream, (s.stream it.stream).epoch, s.journal.counter,
    .capturing it.pair, 0, 0, 0⟩
  { s with
    wc := { s.wc with hold := [] }
    journal := ⟨insertEntry created s.journal.entries, s.journal.counter + 1#32⟩
    port := s.port.withIssued t (.capture i l) s.now none }

/-- The outcome of an act that ends with the expiry of `it`, alone in the hold queue of `s`. Nothing more
comes of it unless the stream is COMMITTING with nothing in flight and no capture. Then a member's expiry
meets the commit condition of an epoch it has doomed, which in READY is rolled back. Each case is a next
state, given in full (R36, R38, R81). -/
def State.expiresTo (it : HeldItem) (s : State) (out : Host.Outcome State Fault Refusal) : Prop :=
  let r := s.stream it.stream
  ((r.state ≠ .committing ∨ 0 < r.inFlight ∨ s.hasCapturing it.stream r.epoch = true) →
    out = .next (s.expired it))
  ∧ (r.state = .committing → r.inFlight = 0 → s.hasCapturing it.stream r.epoch = false →
    it.epoch.isSome = true → s.power.device = .ready → s.engine.lingerPending = [] →
    (s.expired it).rollsBackTo it.stream .committing .doomed out)


end Sys2Proof.Machine

namespace Sys2Proof

/-! ### Groups of commands -/

/-- The commands of the data path: the host bus, the memory bus, and the data path's timers and
ROLLBACK_N. -/
def Instr.isDataPath : Instr → Bool
  | .hostWriteRequest _ | .hostReadRequest _ | .hostResponseTaken _ | .issueRequest
  | .memoryResponse _ _ _ | .responseLimitExpiry _ | .holdLimitExpiry _ | .ageExpiry _
  | .rollbackNAssertion => true
  | _ => false

/-- The commands taken in INIT and READY alone (Table 10-3). -/
def Instr.isSetting : Instr → Bool
  | .streamSet _ _ _ _ _ | .regionSet _ _ _ _ _ | .sourceMapSet _ _ | .meterSet _ _ _ _
  | .timeoutSet _ | .abort _ => true
  | _ => false

/-- The commands taken in READY alone (Table 10-3). -/
def Instr.isReadyOnly : Instr → Bool
  | .resumeRetry _ | .resumeDiscard _ | .calibrate | .restart => true
  | _ => false

/-- The management commands (Table 10-3). -/
def Instr.isManagement : Instr → Bool
  | .status _ | .streamInfo _ | .regionInfo _ | .sourceMapInfo | .failedList _ _ | .entryImage _ _
  | .outcome _ | .eventNext | .flagsClear _ | .alertMaskSet _ => true
  | i => i.isSetting || i.isReadyOnly

end Sys2Proof
end

