-- ==== Sys2Proof/Certificates/Slice0/Obligations.lean ====
section
/-! DEFINITION. The statements for the provers. Rules of spec/ are cited as R<n>, entries of the
assumption log as LOG <n>. -/

open Sys2Proof Sys2Proof.Machine

/-! ### The queue, reset and what every step keeps -/

/-- A step takes the command at the front of the queue and runs it on the state with the queue's rest;
with the queue empty a millisecond passes and nothing else changes (LOG 2, LOG 24: the model's). -/
def Obligations.StepTakesFrontCommand : Prop :=
  (∀ (c : Instr) (rest : List Instr) (s : State),
    step { s with pending := c :: rest } = exec c { s with pending := rest })
  ∧ ∀ s : State, s.pending = [] → step s = .next { s with now := s.now + 1 }

/-- Every command is taken in every state, leaves the queue as it is, and moves the device state along
Table 8-1 alone (R139, R147, R150), or through DRAIN to SPENT within one act when a drain has nothing to
wait for. That a command is taken where its event's premise fails is the model's choice (LOG 1), and the
move from READY to SPENT in one act is the model's reading (LOG 12). -/
def Obligations.EveryCommandTaken : Prop :=
  ∀ (c : Instr) (s : State), s.deviceOk → s.port.reservedOk →
    ∃ t, exec c s = .next t ∧ t.pending = s.pending
      ∧ s.power.device.movesTo t.power.device = true

/-- What POR leaves: the values of Tables 2-5, 3-4, 3-5, 5-4, 6-2, 7-3, 9-1 and 10-5 and of R141, with
INIT begun. The levels of the lines, the straps and the slots at reset are the model's (LOG 3, LOG 4)
and are not stated here. (R22, R26, R64, R65, R111, R128, R139, R141, R154, R165, R168, R172.) -/
def Obligations.ResetHoldsPorValues : Prop :=
  let s := State.reset
  s.power.device = .init ∧ s.power.cause = .none ∧ s.power.phase = .none
  ∧ s.power.resetRemembered = false ∧ s.power.commits = 0 ∧ s.power.settleSince = none
  ∧ s.host = ⟨[], [], [], []⟩
  ∧ (∀ w : Fin 8, s.cls.windows[w] = ⟨false, .journal, 0, 1⟩)
  ∧ (∀ x : SourceId, s.cls.sourceMap[x] = none)
  ∧ s.journal.entries = [] ∧ s.journal.counter = 0#32 ∧ s.epochs.opening = 0#32
  ∧ (∀ n : StreamId, (s.stream n).state = .closed ∧ (s.stream n).epoch = 0#16
      ∧ (s.stream n).opening = 0#32 ∧ (s.stream n).inFlight = 0 ∧ (s.stream n).doomed = false
      ∧ (s.stream n).kept = none ∧ (s.stream n).lossCause = none ∧ (s.stream n).noticeOwed = false
      ∧ (s.stream n).policy = .wait ∧ (s.stream n).holdLimit = 100 ∧ (s.stream n).quota = 512
      ∧ (s.stream n).ageLimit = 0 ∧ (s.stream n).age = .stopped 0 ∧ (s.stream n).origin = none
      ∧ (s.stream n).lossRestored = 0 ∧ (s.stream n).lossFailed = 0)
  ∧ s.wc.hold = []
  ∧ s.engine = ⟨[], [], [], 0, 0, 0⟩
  ∧ (∀ t : Fin 48, s.port.tags[t] = .free) ∧ s.port.queue = [] ∧ s.port.limit = 20
  ∧ s.meter.mode = .stopped ∧ s.meter.raw = 0 ∧ s.meter.offset = 0 ∧ s.meter.store = 0
  ∧ s.meter.credit = 0 ∧ s.meter.stale = true ∧ s.meter.shortfall = false
  ∧ s.meter.faultRaw = false ∧ s.meter.faultOffset = false
  ∧ s.meter.period = 100 ∧ s.meter.reserve = 8000 ∧ s.meter.cost = 40 ∧ s.meter.cap = 512
  ∧ s.store.next = 0 ∧ s.store.usable = true ∧ s.store.drainSeq = 0#32
  ∧ s.store.report = ⟨.none, none, .none⟩ ∧ s.store.table = []
  ∧ s.mgmt.receiver = .idle ∧ s.mgmt.response = none ∧ s.mgmt.flags = 0#16 ∧ s.mgmt.mask = 0#16
  ∧ s.mgmt.events = [] ∧ s.mgmt.restartOut = false ∧ s.mgmt.calibrateOut = false ∧ s.mgmt.retryOut = []

/-- The state after reset meets every invariant that the steps keep. -/
def Obligations.ResetIsSafe : Prop := State.reset.safe

/-- Every step keeps the journal's canonical form: indexes strictly rising and below 512, and no two
working entries with one line (R1, R7, R12). -/
def Obligations.StepKeepsJournal : Prop :=
  ∀ s t : State, s.journal.canonical → s.deviceOk → s.port.reservedOk → step s = .next t →
    t.journal.canonical

/-- Every step keeps the device state together with what belongs to it, and reserved tags for restore
writes alone (R111, R113, R139, R142, R156 to R158). -/
def Obligations.StepKeepsDeviceState : Prop :=
  ∀ s t : State, s.deviceOk → s.port.reservedOk → step s = .next t →
    t.deviceOk ∧ t.port.reservedOk

/-- Every step keeps the bounds of the slots, restore positions and event queue, and the unused
positions of the flags and the alert mask at 0 (R59, R97, R173, R174, R175). -/
def Obligations.StepKeepsBounds : Prop :=
  ∀ s t : State, s.sizesOk → s.reportingOk → s.deviceOk → s.port.reservedOk → step s = .next t →
    t.sizesOk ∧ t.reportingOk

/-- A step leaves no re-examination pass owed: a pass runs within the act that owes it (R84). The owed
mark is the model's own field (LOG 22). -/
def Obligations.StepOwesNoPass : Prop :=
  ∀ s t : State, s.noPassOwed → step s = .next t → t.noPassOwed

/-- In DRAIN and in SPENT a command admits nothing and accepts nothing: the entry count and the counts
of held slots do not rise (R23, R59, R67). -/
def Obligations.DrainOnlyLowers : Prop :=
  ∀ (c : Instr) (s t : State), s.deviceOk → s.port.reservedOk →
    s.power.device = .drain ∨ s.power.device = .spent → exec c s = .next t →
    t.entryCount ≤ s.entryCount ∧ t.host.writeSlots.length ≤ s.host.writeSlots.length
      ∧ t.host.readSlots.length ≤ s.host.readSlots.length

/-- Outside DRAIN the commands of the data path leave the classifier, power control, the outcome store,
the pins, the management port but for its events and flags and the list of outstanding RETRYs, the
meter's readings and configuration, and every stream's configuration as they are (R63, R127, R128, R139,
R154, R172). -/
def Obligations.DataPathFrame : Prop :=
  ∀ (c : Instr) (s t : State), c.isDataPath = true → s.power.device ≠ .drain →
    exec c s = .next t →
    t.cls = s.cls ∧ t.power = s.power ∧ t.store = s.store ∧ t.pins = s.pins
    ∧ t.initTime = s.initTime ∧ t.freeCount = s.freeCount ∧ t.pending = s.pending
    ∧ t.mgmt.response = s.mgmt.response ∧ t.mgmt.mask = s.mgmt.mask
    ∧ t.mgmt.receiver = s.mgmt.receiver ∧ t.mgmt.address = s.mgmt.address
    ∧ t.mgmt.acked = s.mgmt.acked ∧ t.mgmt.sent = s.mgmt.sent
    ∧ t.mgmt.restartOut = s.mgmt.restartOut ∧ t.mgmt.calibrateOut = s.mgmt.calibrateOut
    ∧ { t.meter with shortfall := s.meter.shortfall } = s.meter
    ∧ ∀ n : StreamId, (t.stream n).policy = (s.stream n).policy
        ∧ (t.stream n).holdLimit = (s.stream n).holdLimit
        ∧ (t.stream n).quota = (s.stream n).quota ∧ (t.stream n).ageLimit = (s.stream n).ageLimit

/-! ### Host port and write control -/

/-- Outside READY, and with every slot of its kind held, a request offered by the host waits on its
channel, and nothing else changes (R59, R67; LOG 5 for the form of the waiting list). -/
def Obligations.RequestsWait : Prop :=
  ∀ (s : State) (w : WriteReq) (r : ReadReq),
    (s.power.device ≠ .ready →
      exec (.hostWriteRequest w) s = .next { s with bus := { s.bus with writes := s.bus.writes ++ [w] } }
      ∧ exec (.hostReadRequest r) s = .next { s with bus := { s.bus with reads := s.bus.reads ++ [r] } })
    ∧ (s.busEmpty → s.host.writeSlots.length = 32 →
      exec (.hostWriteRequest w) s = .next { s with bus := { s.bus with writes := [w] } })
    ∧ (s.busEmpty → s.host.readSlots.length = 32 →
      exec (.hostReadRequest r) s = .next { s with bus := { s.bus with reads := [r] } })

/-- Protocol errors, blocked and untracked writes and untracked markers are accepted into a slot and
answered REFUSED at once, and nothing else changes (R60, R61, R62). -/
def Obligations.WriteRefusedAtOnce : Prop :=
  ∀ (s : State) (w : WriteReq), s.hostOpen → s.host.writeSlots.length < 32 →
    (w.pair ∈ s.host.writePairs ∨ w.mark = .reserved
      ∨ ((w.mark = .commit ∨ w.mark = .abort)
          ∧ (w.mask ≠ 0#64 ∨ s.cls.streamOf w.pair.source = none))
      ∨ (w.mark = .none ∧ w.mask ≠ 0#64 ∧ (s.cls.kindAt w.line = some .block
          ∨ (s.cls.kindAt w.line = some .journal ∧ s.cls.streamOf w.pair.source = none)))) →
    exec (.hostWriteRequest w) s = .next { s with host := { s.host with
      writeSlots := s.host.writeSlots ++ [⟨w, decide (w.pair ∈ s.host.writePairs), true⟩]
      writeResponses := s.host.writeResponses
        ++ [⟨w.pair, .refused, decide (w.pair ∈ s.host.writePairs)⟩] } }

/-- A null write is answered OK at once; a pass-through write takes its slot and is issued on the
lowest-numbered free general tag with its mask and data, or joins the young end of the issue queue when no
general tag is free (R62, R112, R114, R118). -/
def Obligations.NullAndPassThroughWrites : Prop :=
  (∀ (s : State) (w : WriteReq), s.canTakeWrite w.pair → w.mark = .none → w.mask = 0#64 →
    exec (.hostWriteRequest w) s = .next { s with host := s.host.withAnswered w .ok })
  ∧ ∀ (s : State) (w : WriteReq), s.canTakeWrite w.pair →
    w.mark = .none → w.mask ≠ 0#64 → s.cls.kindAt w.line = none →
    (∀ t, s.canIssue t → exec (.hostWriteRequest w) s = .next { s with
      host := s.host.withWrite w
      port := s.port.withIssued t (.passWrite w.pair w.line) s.now (some (w.mask, w.data)) })
    ∧ (s.queueWaits → exec (.hostWriteRequest w) s = .next { s with
      host := s.host.withWrite w
      port := s.port.withQueued (.passWrite w.pair w.line) })

/-- R31: a marker that reaches a CLOSED stream is answered OK at once and the stream stays CLOSED, from
the host port and from the hold queue; no stream record changes. -/
def Obligations.MarkerOnClosedStream : Prop :=
  (∀ (s : State) (w : WriteReq) (n : StreamId) (m : MarkerKind), s.canTakeWrite w.pair →
    s.cls.marks w n m → (∀ x ∈ s.wc.hold, x.pair ≠ w.pair) → (s.stream n).state = .closed →
    exec (.hostWriteRequest w) s = .next { s with host := s.host.withAnswered w .ok })
  ∧ ∀ (s : State) (it : HeldItem) (m : MarkerKind), s.heldItem? it.pair = some it →
    it.kind = .marker m → it.epoch = none → (s.stream it.stream).state = .closed →
    s.reexamine it.pair = { s with
      host := s.host.answerWrite it.pair .ok
      wc := { s.wc with hold := s.wc.hold.filter (·.pair != it.pair) } }

/-- A journaled write of a CLOSED stream opens an epoch, and one of an OPEN stream joins the epoch that is
open, whose record stays as it is. With its line in no entry and admission granted the write creates the
lowest FREE entry, CAPTURING, of which it is the trigger; the capture read is issued, or with no general
tag free joins the issue queue (R3, R11, R12, R27, R30, R32, R71, R74, R112). -/
def Obligations.FirstWriteOpensEpoch : Prop :=
  ∀ (s : State) (w : WriteReq) (n : StreamId), s.canTakeWrite w.pair →
    s.cls.journals w n → s.lineClear w → s.journal.atLine? w.line = none → s.hasRoom n →
    let i := lowestFree 0 s.journal.entries
    let capture : Request := .capture i w.line
    let taken := fun (c : EpochCtl) (ep : EpochNo) (port : MemPort) => ({ s with
      host := s.host.withWrite w
      epochs := c
      journal := ⟨insertEntry ⟨i, w.line, n, ep, s.journal.counter, .capturing w.pair, 0, 0, 0⟩
        s.journal.entries, s.journal.counter + 1#32⟩
      port := port } : State)
    let begins := fun (c : EpochCtl) (ep : EpochNo) =>
      (∀ t, s.canIssue t → exec (.hostWriteRequest w) s
        = .next (taken c ep (s.port.withIssued t capture s.now none)))
      ∧ (s.queueWaits →
        exec (.hostWriteRequest w) s = .next (taken c ep (s.port.withQueued capture)))
    ((s.stream n).state = .closed →
      begins { (s.epochs.withStream n { s.stream n with
          state := .open, epoch := (s.stream n).epoch + 1#16, opening := s.epochs.opening
          age := .running s.now, doomed := false }) with opening := s.epochs.opening + 1#32 }
        ((s.stream n).epoch + 1#16))
    ∧ ((s.stream n).state = .open → begins s.epochs (s.stream n).epoch)

/-- A write of an OPEN stream to a line whose entry is LIVE in the stream's epoch is forwarded: it is
issued with its mask and data, and the in-flight counts of entry and stream rise by one (R4, R28, R76). -/
def Obligations.WriteForwardedToLiveEntry : Prop :=
  ∀ (s : State) (w : WriteReq) (n : StreamId) (t : Nat) (e : Entry), s.canTakeWrite w.pair →
    s.cls.journals w n → s.lineClear w → (s.stream n).state = .open →
    s.journal.atLine? w.line = some e → e.stream = n → e.epoch = (s.stream n).epoch →
    e.isIn .live = true → s.canIssue t →
    exec (.hostWriteRequest w) s = .next { s with
      host := s.host.withWrite w
      epochs := s.epochs.withStream n { s.stream n with inFlight := (s.stream n).inFlight + 1 }
      journal := s.journal.updEntry e.index fun e => { e with inFlight := e.inFlight + 1 }
      port := s.port.withIssued t (.forward w.pair w.line e.index n e.epoch) s.now
        (some (w.mask, w.data)) }

/-- A journaled write or a marker is held with reason EPOCH_WAIT while its stream is COMMITTING or ROLLING
and is answered REFUSED in HALTED; in ABANDONED it is answered LOST, and a marker then moves the stream to
CLOSED (R39, R49, R50, R71, R86). -/
def Obligations.RequestByStreamState : Prop :=
  (∀ (s : State) (w : WriteReq) (n : StreamId), s.canTakeWrite w.pair → s.cls.journals w n →
    s.lineClear w →
    (((s.stream n).state = .committing ∨ (s.stream n).state = .rolling) →
      exec (.hostWriteRequest w) s = .next { s with
        host := s.host.withWrite w
        wc := { s.wc with hold := s.wc.hold
          ++ [⟨w.pair, .write w.line, n, none, .epochWait, s.now - s.initTime⟩] } })
    ∧ ((s.stream n).state = .abandoned →
      exec (.hostWriteRequest w) s = .next { s with host := s.host.withAnswered w .lost })
    ∧ ((s.stream n).state = .halted →
      exec (.hostWriteRequest w) s = .next { s with host := s.host.withAnswered w .refused }))
  ∧ ∀ (s : State) (w : WriteReq) (n : StreamId) (m : MarkerKind), s.canTakeWrite w.pair →
    s.cls.marks w n m → (∀ x ∈ s.wc.hold, x.pair ≠ w.pair) →
    (((s.stream n).state = .committing ∨ (s.stream n).state = .rolling) →
      exec (.hostWriteRequest w) s = .next { s with
        host := s.host.withWrite w
        wc := { s.wc with hold := s.wc.hold
          ++ [⟨w.pair, .marker m, n, none, .epochWait, s.now - s.initTime⟩] } })
    ∧ ((s.stream n).state = .halted →
      exec (.hostWriteRequest w) s = .next { s with host := s.host.withAnswered w .refused })
    ∧ ((s.stream n).state = .abandoned → s.wc.hold = [] →
      exec (.hostWriteRequest w) s = .next { s with
        host := s.host.withAnswered w .lost
        epochs := s.epochs.withStream n { s.stream n with
          state := .closed, age := .stopped 0, doomed := false, noticeOwed := false } })

/-- The first write of a CLOSED stream opens its epoch whatever happens to it next. A write of a stream
that is OPEN, or so opened, that meets a full journal, or a line of another epoch, is held under a WAIT
policy with reason ADMISSION or CONFLICT and answered REFUSED under a REFUSE policy, which dooms the epoch
and leaves the stream OPEN; a write to a line its own epoch is capturing is held with reason CAPTURE_WAIT.
A write whose source and line an older write in the hold queue has, held for whatever reason, is held with
reason LINE_ORDER, whatever the journal holds at its line and whatever the policy. The journal is
unchanged (R8, R13, R30, R34, R72, R73, R83). -/
def Obligations.WriteNotAdmitted : Prop :=
  ∀ (s : State) (w : WriteReq) (n : StreamId), s.canTakeWrite w.pair → s.cls.journals w n →
    ((s.stream n).state = .open ∨ (s.stream n).state = .closed) →
    let u := if (s.stream n).state = .closed then s.opened n else s
    let held := fun r : HoldReason => ({ u with
      host := s.host.withWrite w
      wc := { s.wc with hold := s.wc.hold
        ++ [⟨w.pair, .write w.line, n, some (u.stream n).epoch, r, s.now - s.initTime⟩] } } : State)
    let refused := ({ u with
      host := s.host.withAnswered w .refused
      epochs := u.epochs.withStream n { u.stream n with doomed := true } } : State)
    (s.lineClear w → s.journal.atLine? w.line = none → ¬ s.hasRoom n →
      exec (.hostWriteRequest w) s = .next
        (match (s.stream n).policy with
        | .wait => held .admission
        | .refuse => refused))
    ∧ (∀ e, s.lineClear w → s.journal.atLine? w.line = some e →
      (e.stream ≠ n ∨ e.epoch ≠ (u.stream n).epoch ∨ (e.isIn .live = false ∧ e.isCapturing = false)) →
      exec (.hostWriteRequest w) s = .next
        (match (s.stream n).policy with
        | .wait => held .conflict
        | .refuse => refused))
    ∧ (∀ e, s.lineClear w → s.journal.atLine? w.line = some e → e.stream = n →
      e.epoch = (u.stream n).epoch → e.isCapturing = true →
      exec (.hostWriteRequest w) s = .next (held .captureWait))
    ∧ ∀ x ∈ s.wc.hold, (∀ y ∈ s.wc.hold, y.pair ≠ w.pair) → x.line? = some w.line →
      x.pair.source = w.pair.source →
      exec (.hostWriteRequest w) s = .next (held .lineOrder)

/-- A COMMIT marker for an OPEN, undoomed epoch with nothing held, captured or in flight commits it as
one act: its LIVE entries are freed, the stream is CLOSED with age 0 and doomed no, and the marker is
answered OK. A write of another OPEN stream that is held with reason CONFLICT or ADMISSION is then taken up
in the pass of the same act: with its line in no entry and room for it, it leaves the queue as the trigger
of a new CAPTURING entry, and its capture read is issued (R12, R14, R17, R32, R36, R37, R74, R84, R85,
R88). -/
def Obligations.QuietEpochCommits : Prop :=
  ∀ (s : State) (w : WriteReq) (n : StreamId), s.canTakeWrite w.pair → s.cls.marks w n .commit →
    s.journal.canonical → s.withinCeiling →
    (∀ e ∈ s.journal.entries, e.stream = n → e.epoch = (s.stream n).epoch → s.port.untiedFrom e.index) →
    (s.stream n).state = .open → (s.stream n).doomed = false → (s.stream n).inFlight = 0 →
    s.hasCapturing n (s.stream n).epoch = false →
    let committed := ({ s with
      host := s.host.withAnswered w .ok
      epochs := s.epochs.withStream n { s.stream n with
        state := .closed, age := .stopped 0, doomed := false, kept := none }
      journal := { s.journal with entries := s.journal.entries.filter fun e =>
        !(e.stream == n && e.epoch == (s.stream n).epoch && e.isIn .live) } } : State)
    (s.wc.hold = [] → exec (.hostWriteRequest w) s = .next committed)
    ∧ ∀ (it : HeldItem) (l : LineAddr) (t : Nat), s.wc.hold = [it] → it.pair ≠ w.pair →
      it.kind = .write l → it.stream ≠ n → it.epoch = some (s.stream it.stream).epoch →
      (it.reason = .conflict ∨ it.reason = .admission) → (s.stream it.stream).state = .open →
      committed.journal.atLine? l = none → committed.hasRoom it.stream → s.canIssue t →
      exec (.hostWriteRequest w) s = .next { committed with
        wc := { s.wc with hold := [] }
        journal := ⟨insertEntry ⟨lowestFree 0 committed.journal.entries, l, it.stream,
            (s.stream it.stream).epoch, s.journal.counter, .capturing it.pair, 0, 0, 0⟩
            committed.journal.entries, s.journal.counter + 1#32⟩
        port := s.port.withIssued t (.capture (lowestFree 0 committed.journal.entries) l) s.now none }

/-- A COMMIT marker for an OPEN epoch with a write in flight or a capture, and nothing held, is kept
unanswered, and the stream moves to COMMITTING with its age stopped. With neither, the epoch meets the
commit condition, and a doomed one is rolled back with cause DOOMED and origin COMMITTING. An ABORT marker
is kept, and the epoch rolled back with cause MARK and origin OPEN. The job then waits in QUEUED or
SETTLE, or restores the newest LIVE entries, or with none ends at once, which closes the stream and
answers the ABORT marker OK and the COMMIT marker LOST. `State.rollsBackTo` equates the command's outcome,
case by case, with the next state. (R32, R33, R36, R38, R45, R47, R93, R95, R96, R97, R100). -/
def Obligations.MarkerKeptOnOpenStream : Prop :=
  ∀ (s : State) (w : WriteReq) (n : StreamId), s.canTakeWrite w.pair →
    (s.stream n).state = .open →
    let keeping := fun m : MarkerKind => ({ s with
      host := s.host.withWrite w
      epochs := s.epochs.withStream n { s.stream n with kept := some ⟨m, w.pair⟩ } } : State)
    let unsettled := 0 < (s.stream n).inFlight ∨ s.hasCapturing n (s.stream n).epoch = true
    (s.cls.marks w n .commit → s.wc.hold = [] → unsettled →
      exec (.hostWriteRequest w) s = .next { s with
        host := s.host.withWrite w
        epochs := s.epochs.withStream n { s.stream n with
          kept := some ⟨.commit, w.pair⟩, state := .committing
          age := .stopped ((s.stream n).age.valueAt s.now) } })
    ∧ (s.cls.marks w n .commit → s.wc.hold = [] → ¬ unsettled → (s.stream n).doomed = true →
      s.engine.lingerPending = [] →
      (keeping .commit).rollsBackTo n .committing .doomed (exec (.hostWriteRequest w) s))
    ∧ (s.cls.marks w n .abort → s.canRoll n → (∀ x ∈ s.wc.hold, x.pair ≠ w.pair) →
      (keeping .abort).rollsBackTo n .open .mark (exec (.hostWriteRequest w) s))

/-- A read takes a slot and is issued on the lowest-numbered free general tag, whatever its line and
source; with no general tag free it joins the young end of the issue queue, behind what waits there; a
read of an outstanding pair is answered MEMORY with all-00h data at once (R57, R60, R66, R112). -/
def Obligations.ReadAccepted : Prop :=
  ∀ (s : State) (r : ReadReq), s.hostOpen → s.host.readSlots.length < 32 →
    (∀ t, s.canIssue t → r.pair ∉ s.host.readPairs →
      exec (.hostReadRequest r) s = .next { s with
        host := { s.host with readSlots := s.host.readSlots ++ [⟨r, false, false⟩] }
        port := s.port.withIssued t (.hostRead r.pair r.line) s.now none })
    ∧ (s.queueWaits → r.pair ∉ s.host.readPairs →
      exec (.hostReadRequest r) s = .next { s with
        host := { s.host with readSlots := s.host.readSlots ++ [⟨r, false, false⟩] }
        port := s.port.withQueued (.hostRead r.pair r.line) })
    ∧ (r.pair ∈ s.host.readPairs →
      exec (.hostReadRequest r) s = .next { s with host := { s.host with
        readSlots := s.host.readSlots ++ [⟨r, true, true⟩]
        readResponses := s.host.readResponses
          ++ [⟨r.pair, .memory, Vector.replicate 64 0#8, true⟩] } })

/-- The host takes the oldest response of a channel: it leaves the channel, and its slot is freed (R58,
R60). With the channel empty nothing changes (LOG 1: the model's). In READY with every slot of a kind held,
the freed slot takes the oldest request waiting on that channel, which is then accepted as if it were
offered at that moment, and the others go on waiting (R59, R67; LOG 5 for the form of the waiting list). In
DRAIN nothing that waits is taken; and with all else over, taking the last response ends ROLLING_BACK, and
the END record is handed to the store (R149, R150). -/
def Obligations.ResponseTaken : Prop :=
  (∀ s : State, s.quiet → s.busEmpty →
    (∀ r rest, s.host.writeResponses = r :: rest →
      exec (.hostResponseTaken .write) s = .next { s with host := { s.host with
        writeResponses := rest
        writeSlots := s.host.writeSlots.eraseP fun x =>
          x.req.pair == r.pair && x.duplicate == r.duplicate && x.answered } })
    ∧ (∀ r rest, s.host.readResponses = r :: rest →
      exec (.hostResponseTaken .read) s = .next { s with host := { s.host with
        readResponses := rest
        readSlots := s.host.readSlots.eraseP fun x =>
          x.req.pair == r.pair && x.duplicate == r.duplicate && x.answered } })
    ∧ (s.host.writeResponses = [] → exec (.hostResponseTaken .write) s = .next s)
    ∧ (s.host.readResponses = [] → exec (.hostResponseTaken .read) s = .next s))
  ∧ (∀ (s : State) (r : WriteResponse) (rest : List WriteResponse) (x : WriteSlot) (w : WriteReq)
      (more : List WriteReq), s.power.device = .ready → s.noPassOwed →
    s.host.writeResponses = r :: rest → x ∈ s.host.writeSlots → x.req.pair = r.pair →
    x.duplicate = r.duplicate → x.answered = true → s.host.writeSlots.length = 32 →
    s.bus = ⟨w :: more, []⟩ →
    ∃ t, exec (.hostWriteRequest w)
        { s with bus := ⟨[], []⟩, host := s.host.withoutWrite r rest } = .next t
      ∧ exec (.hostResponseTaken .write) s = .next { t with bus := ⟨more, []⟩ })
  ∧ (∀ (s : State) (r : ReadResponse) (rest : List ReadResponse) (x : ReadSlot) (q : ReadReq)
      (more : List ReadReq), s.power.device = .ready → s.noPassOwed →
    s.host.readResponses = r :: rest → x ∈ s.host.readSlots → x.req.pair = r.pair →
    x.duplicate = r.duplicate → x.answered = true → s.host.readSlots.length = 32 →
    s.bus = ⟨[], q :: more⟩ →
    ∃ t, exec (.hostReadRequest q)
        { s with bus := ⟨[], []⟩, host := s.host.withoutRead r rest } = .next t
      ∧ exec (.hostResponseTaken .read) s = .next { t with bus := ⟨[], more⟩ })
  ∧ (∀ (s : State) (x : ReadSlot), s.power.device = .drain → s.power.phase = .settling →
    s.noPassOwed → x ∈ s.host.readSlots → x.answered = false →
    (∀ r rest, s.host.writeResponses = r :: rest →
      exec (.hostResponseTaken .write) s = .next { s with host := s.host.withoutWrite r rest })
    ∧ ∀ r rest, s.host.readResponses = r :: rest →
      exec (.hostResponseTaken .read) s = .next { s with host := s.host.withoutRead r rest })
  ∧ ∀ (s : State) (r : WriteResponse) (x : WriteSlot), s.power.device = .drain →
    s.power.phase = .rollingBack → s.noPassOwed → s.engineFinished → s.port.nothingOutstanding →
    s.store.usable = true → s.store.op = .idle → s.host = ⟨[x], [], [r], []⟩ →
    x.req.pair = r.pair → x.duplicate = r.duplicate → x.answered = true →
    let record := endSlot s.store.drainSeq s.power.commits s.engine.restoredTally
      s.engine.failedTally s.engine.lingerTally
    exec (.hostResponseTaken .write) s = .next { s with
      host := ⟨[], [], [], []⟩
      power := { s.power with phase := .recording }
      store := { s.store with op := .programming s.store.next true record } }

/-! ### Memory port, rollback engine -/

/-- ISSUE_REQUEST issues requests of the queue until it is empty or no tag is free for what waits. The
oldest waiting restore write takes the lowest-numbered free reserved tag; with none free, or none waiting,
the oldest waiting request takes the lowest-numbered free general tag; then the same is done again. So
restore writes are issued in their order and the others in theirs, each placed on the request channel with
its tag, line, mask and data, its tag in use from now with the limit in force. Nothing but the memory port
changes (R111, R112, R113, R114, R118; LOG 18 for what the command standing alone does). -/
def Obligations.IssueRequests : Prop :=
  (∀ s : State, ∃ t, exec .issueRequest s = .next t
    ∧ { t with port := s.port } = s ∧ t.port.limit = s.port.limit
    ∧ (t.port.queue = [] ∨ (t.port.freeGeneral? = none
        ∧ (t.port.freeReserved? = none ∨ t.port.queue.find? Request.isRestore = none)))
    ∧ t.port.queue.Sublist s.port.queue
    ∧ (∃ l, t.port.issued = s.port.issued ++ l
        ∧ l.length + t.port.queue.length = s.port.queue.length)
    ∧ ∃ taken : List (Nat × Request),
        t.port.issued = s.port.issued ++ taken.map (fun x => s.busRequest x.1 x.2)
        ∧ (∀ b : Bool, (taken.map (·.2)).filter (·.isRestore == b)
              ++ t.port.queue.filter (·.isRestore == b) = s.port.queue.filter (·.isRestore == b))
        ∧ (taken.map (·.1)).Nodup
        ∧ (∀ x ∈ taken, s.port.tags[x.1]? = some .free
            ∧ t.port.tags[x.1]? = some (.inUse x.2 s.now s.port.limit)
            ∧ (x.2.isRestore = false → x.1 < 44))
        ∧ ∀ i, i ∉ taken.map (·.1) → t.port.tags[i]? = s.port.tags[i]?)
  ∧ (∀ (s : State) (r : Request) (k : Nat) (a b : List Request),
      (s.port.queue = a ++ r :: b → (∀ q ∈ a, q.isRestore = false) → r.isRestore = true →
        s.port.freeReserved? = some k →
        exec .issueRequest s = exec .issueRequest { s with port := s.port.taking k r (a ++ b) s })
      ∧ (s.port.queue = r :: b →
        (s.port.freeReserved? = none ∨ ∀ q ∈ s.port.queue, q.isRestore = false) →
        s.port.freeGeneral? = some k →
        exec .issueRequest s = exec .issueRequest { s with port := s.port.taking k r b s })
      ∧ ((s.port.freeReserved? = none ∨ ∀ q ∈ s.port.queue, q.isRestore = false) →
        (s.port.freeGeneral? = none ∨ s.port.queue = []) →
        exec .issueRequest s = .next s)
      ∧ (s.port.queue = [r] → r.isRestore = true → s.port.freeReserved? = some k →
        exec .issueRequest s = .next { s with port := s.port.taking k r [] s }))
  ∧ (∀ (m : MemPort) (k : Nat),
      (m.freeGeneral? = some k ↔ k < 44 ∧ m.tags[k]? = some .free ∧ ∀ i < k, m.tags[i]? ≠ some .free)
      ∧ (m.freeReserved? = some k ↔ 44 ≤ k ∧ k < 48 ∧ m.tags[k]? = some .free
        ∧ ∀ i < k, 44 ≤ i → m.tags[i]? ≠ some .free))
  ∧ ∀ (s : State) (r : Request) (k : Nat), s.port.queue = [r] → r.isRestore = false →
    s.port.freeGeneral? = some k →
    exec .issueRequest s = .next { s with port := { s.port with
      queue := []
      tags := s.port.tags.setIfInBounds k (.inUse r s.now s.port.limit)
      issued := s.port.issued ++ [s.busRequest k r] } }

/-- A response on a free tag, or on a value that names no tag, is discarded; a late one frees its poisoned
tag, and lowers the strays of the entry its tie names. A general tag freed so is given to the head of a
waiting issue queue, and a reserved one to the oldest waiting restore write, past what stands before it. A
LINGER entry whose strays reach 0 joins the young end of the linger-pending list: with the four restore
positions held it waits there, and with none held and nothing before it, it becomes RESTORING at once,
takes a position, and its before-image is written on the lowest-numbered free reserved tag (R5, R19, R97,
R98, R102, R112, R113, R114, R115, R120, R177). -/
def Obligations.ResponseOnTagNotInUse : Prop :=
  (∀ (s : State) (k : BitVec 6) (st : MemStatus) (d : Block) (r : Request) (a b : List Request),
    s.quiet → s.port.tags[k.toNat]? = some (.poisoned none) → s.port.freeGeneral? = none →
    (k.toNat < 44 → s.port.queue = r :: b → s.queueWaits →
      exec (.memoryResponse k st d) s = .next { s with port := s.port.taking k.toNat r b s })
    ∧ (44 ≤ k.toNat → s.port.queue = a ++ r :: b → (∀ q ∈ a, q.isRestore = false) →
      r.isRestore = true → s.port.freeReserved? = none →
      exec (.memoryResponse k st d) s = .next { s with
        port := s.port.taking k.toNat r (a ++ b) s }))
  ∧ ∀ (s : State) (k : BitVec 6) (st : MemStatus) (d : Block), s.quiet → s.port.queue = [] →
    ((s.port.tags[k.toNat]? = some .free ∨ 48 ≤ k.toNat) → exec (.memoryResponse k st d) s = .next s)
    ∧ (s.port.tags[k.toNat]? = some (.poisoned none) →
      exec (.memoryResponse k st d) s = .next { s with port := s.port.withTag k.toNat .free })
    ∧ ∀ (x : Tie) (e : Entry), s.port.tags[k.toNat]? = some (.poisoned (some x)) →
      s.entry? x.entry = some e →
      let lowered := ({ s with
        port := s.port.withTag k.toNat .free
        journal := s.journal.updEntry x.entry fun e => { e with strays := e.strays - 1 } } : State)
      ((e.isIn .linger = false ∨ 2 ≤ e.strays) → exec (.memoryResponse k st d) s = .next lowered)
      ∧ ∀ im, e.body = .holding .linger im → e.strays = 1 → s.engine.queue = [] →
        x.entry ∉ s.engine.lingerPending →
        (s.engine.positions.length = 4 →
          exec (.memoryResponse k st d) s = .next { lowered with engine := { s.engine with
            lingerPending := s.engine.lingerPending ++ [x.entry] } })
        ∧ ∀ g, s.engine.lingerPending = [] → s.engine.positions = [] → s.journal.canonical →
          (s.port.withTag k.toNat .free).freeReserved? = some g →
          exec (.memoryResponse k st d) s = .next { lowered with
            engine := { s.engine with positions := [⟨x.entry, true⟩] }
            journal := s.journal.updEntry x.entry fun e =>
              { e with body := .holding .restoring im, strays := 0 }
            port := (s.port.withTag k.toNat .free).withIssued g (.restore x.entry e.line true) s.now
              (some (BitVec.allOnes 64, im)) }

/-- The answer to a host read or pass-through write frees its tag and settles the request: OK with
memory's data, or MEMORY, for a read with all-00h data, and MEMORY_ERROR is raised with its kind, tag and
line. The freed tag is given to the head of a waiting issue queue in the same act. An answer marks the
slot that waits under its pair as answered, and its response joins the young end of its channel (R57, R58,
R112, R115, R116, R117, R123). -/
def Obligations.HostRequestAnswered : Prop :=
  (∀ (s : State) (k : BitVec 6) (d : Block) (p : Pair) (l : LineAddr) (a m : Nat), s.quiet →
      s.port.queue = [] →
      (s.port.tags[k.toNat]? = some (.inUse (.hostRead p l) a m) →
        exec (.memoryResponse k .ok d) s = .next { s with
          port := s.port.withTag k.toNat .free
          host := s.host.answerRead p .ok d }
        ∧ exec (.memoryResponse k .error d) s = .next { s with
          port := s.port.withTag k.toNat .free
          host := s.host.answerRead p .memory (Vector.replicate 64 0#8)
          mgmt := s.mgmt.record ⟨.memoryError, none, none, some l, none, .request .read k.toNat⟩ })
      ∧ (s.port.tags[k.toNat]? = some (.inUse (.passWrite p l) a m) →
        exec (.memoryResponse k .ok d) s = .next { s with
          port := s.port.withTag k.toNat .free
          host := s.host.answerWrite p .ok }
        ∧ exec (.memoryResponse k .error d) s = .next { s with
          port := s.port.withTag k.toNat .free
          host := s.host.answerWrite p .memory
          mgmt := s.mgmt.record ⟨.memoryError, none, none, some l, none, .request .pass k.toNat⟩ }))
  ∧ (∀ (s : State) (k : BitVec 6) (d : Block) (p : Pair) (l : LineAddr) (a m : Nat) (r : Request)
      (rest : List Request), s.quiet → k.toNat < 44 → s.port.queue = r :: rest → s.queueWaits →
      (s.port.tags[k.toNat]? = some (.inUse (.hostRead p l) a m) →
        exec (.memoryResponse k .ok d) s = .next { s with
          port := s.port.taking k.toNat r rest s
          host := s.host.answerRead p .ok d })
      ∧ (s.port.tags[k.toNat]? = some (.inUse (.passWrite p l) a m) →
        exec (.memoryResponse k .ok d) s = .next { s with
          port := s.port.taking k.toNat r rest s
          host := s.host.answerWrite p .ok }))
  ∧ (∀ (h : HostPort) (p : Pair) (st : WriteStatus), (∃ x ∈ h.writeSlots, x.awaits p = true) →
    (h.answerWrite p st).writeResponses = h.writeResponses ++ [⟨p, st, false⟩]
    ∧ (∀ x ∈ (h.answerWrite p st).writeSlots, x.awaits p = false)
    ∧ (h.answerWrite p st).writeSlots.map (·.req) = h.writeSlots.map (·.req)
    ∧ (h.answerWrite p st).readSlots = h.readSlots
    ∧ (h.answerWrite p st).readResponses = h.readResponses)
  ∧ ∀ (h : HostPort) (p : Pair) (st : ReadStatus) (d : Block), (∃ x ∈ h.readSlots, x.awaits p = true) →
    (h.answerRead p st d).readResponses = h.readResponses ++ [⟨p, st, d, false⟩]
    ∧ (∀ x ∈ (h.answerRead p st d).readSlots, x.awaits p = false)
    ∧ (h.answerRead p st d).readSlots.map (·.req) = h.readSlots.map (·.req)
    ∧ (h.answerRead p st d).writeSlots = h.writeSlots
    ∧ (h.answerRead p st d).writeResponses = h.writeResponses

/-- A capture answered OK for an epoch that can use it makes its entry LIVE with the data as its
before-image, and forwards the trigger, and then a write held with reason CAPTURE_WAIT on the line, each
with its own mask and data on a general tag; answered ERROR it frees the entry, answers the trigger MEMORY
and the waiting write LOST, dooms the epoch and raises MEMORY_ERROR. A capture that ends with its stream in
ROLLING, or in DRAIN, came too late: whatever the answer, its entry is freed and its trigger answered LOST,
which dooms the epoch, and an answer ERROR raises MEMORY_ERROR. Nothing queued, nothing else changes (R15,
R16, R21, R34, R75, R76, R116, R117, R123). -/
def Obligations.CaptureAnswered : Prop :=
  ∀ (s : State) (k : BitVec 6) (d : Block) (i a m : Nat) (l : LineAddr) (e : Entry) (p : Pair),
    s.noPassOwed → s.port.queue = [] →
    s.port.tags[k.toNat]? = some (.inUse (.capture i l) a m) → s.entry? i = some e →
    e.body = .capturing p → (s.stream e.stream).epoch = e.epoch →
    let live := fun c : Nat => (s.journal.updEntry i fun e =>
      { e with body := .holding .live d }).updEntry i fun e => { e with inFlight := e.inFlight + c }
    let inFlight := fun c : Nat => s.epochs.withStream e.stream
      { s.stream e.stream with inFlight := (s.stream e.stream).inFlight + c }
    let failed := s.mgmt.record
      ⟨.memoryError, some e.stream, some e.epoch, some l, some i, .request .capture k.toNat⟩
    let lost := ({ s with
      port := s.port.withTag k.toNat .free
      journal := s.journal.removeEntry i
      host := s.host.answerWrite p .lost
      epochs := s.epochs.withStream e.stream { s.stream e.stream with doomed := true } } : State)
    (s.power.device = .ready → s.wc.hold = [] → k.toNat < 44 →
      ((s.stream e.stream).state = .open ∨ (s.stream e.stream).state = .committing) →
      ∃ g, (s.port.withTag k.toNat .free).freeGeneral? = some g
        ∧ exec (.memoryResponse k .ok d) s = .next { s with
          journal := live 1
          epochs := inFlight 1
          port := (s.port.withTag k.toNat .free).withIssued g
            (.forward p e.line i e.stream e.epoch) s.now (some (s.host.writeData p)) })
    ∧ (s.power.device = .ready → s.wc.hold = [] → (s.stream e.stream).state = .open → s.withinCeiling →
      s.port.untiedFrom i →
      exec (.memoryResponse k .error d) s = .next { s with
        port := s.port.withTag k.toNat .free
        journal := s.journal.removeEntry i
        host := s.host.answerWrite p .memory
        epochs := s.epochs.withStream e.stream { s.stream e.stream with doomed := true }
        mgmt := failed })
    ∧ (∀ it : HeldItem, s.power.device = .ready → s.wc.hold = [it] → it.reason = .captureWait →
      it.kind = .write e.line → it.stream = e.stream → it.epoch = some e.epoch → it.pair ≠ p →
      (∀ g g', ((s.stream e.stream).state = .open ∨ (s.stream e.stream).state = .committing) →
        (s.port.withTag k.toNat .free).freeGeneral? = some g →
        let trigger := (s.port.withTag k.toNat .free).withIssued g
          (.forward p e.line i e.stream e.epoch) s.now (some (s.host.writeData p))
        trigger.freeGeneral? = some g' →
        exec (.memoryResponse k .ok d) s = .next { s with
          journal := live 2
          epochs := inFlight 2
          wc := { s.wc with hold := [] }
          port := trigger.withIssued g' (.forward it.pair e.line i e.stream e.epoch) s.now
            (some (s.host.writeData it.pair)) })
      ∧ ((s.stream e.stream).state = .open → s.withinCeiling → s.port.untiedFrom i →
        exec (.memoryResponse k .error d) s = .next { s with
          port := s.port.withTag k.toNat .free
          journal := s.journal.removeEntry i
          host := (s.host.answerWrite p .memory).answerWrite it.pair .lost
          wc := { s.wc with hold := [] }
          epochs := s.epochs.withStream e.stream { s.stream e.stream with doomed := true }
          mgmt := failed }))
    ∧ (s.wc.hold = [] → s.withinCeiling → s.port.untiedFrom i → s.engine.lingerPending = [] →
      ((∃ j, s.power.device = .ready ∧ (s.stream e.stream).state = .rolling ∧ s.engine.queue = [j]
          ∧ j.kind = .epoch ∧ j.phase = .settle ∧ 0 < (s.stream j.stream).inFlight)
        ∨ (s.power.device = .drain ∧ s.power.phase = .settling ∧ s.engine.queue = []
          ∧ ((s.stream e.stream).state = .open ∨ (s.stream e.stream).state = .committing)
          ∧ ∃ x ∈ s.host.readSlots, x.answered = false)) →
      exec (.memoryResponse k .ok d) s = .next lost
      ∧ exec (.memoryResponse k .error d) s = .next { lost with mgmt := failed })

/-- The answer to a forwarded write of an OPEN stream lowers the in-flight counts of its entry and its
stream and answers the write; an answer ERROR answers MEMORY, dooms the epoch and raises MEMORY_ERROR. The
last answer OK of a COMMITTING stream whose epoch is not doomed commits it in the same act, as one act:
its LIVE entries are freed, the stream is CLOSED and the kept marker answered OK; in DRAIN one commit is
counted as well. The pass of that act then takes up a request of the stream held with reason EPOCH_WAIT: a
marker is answered OK, and a write opens the next epoch and becomes the trigger of a new entry. The last
answer of a doomed COMMITTING stream, or one that dooms it, enters ROLLING in READY, with cause DOOMED and
origin COMMITTING, its marker kept, and in DRAIN leaves the stream COMMITTING without a job. The last
answer for which a settling EPOCH job waits moves the job to RESTORE. On entering RESTORE an EPOCH job
selects the four newest of its LIVE entries, or all of fewer: each becomes RESTORING, takes a restore
position, and its before-image is written whole to its line, on the reserved tags 44 to 47 in that order,
here all free (R3, R4, R17, R37, R38, R77, R95, R96, R97, R98, R117, R147; and R18, R28, R30, R34, R36,
R39, R45, R85, R86). -/
def Obligations.ForwardedWriteAnswered : Prop :=
  ∀ (s : State) (k : BitVec 6) (d : Block) (p : Pair) (l : LineAddr) (i a m : Nat) (n : StreamId)
    (ep : EpochNo), s.noPassOwed → s.engine.lingerPending = [] → s.port.queue = [] →
    s.port.tags[k.toNat]? = some (.inUse (.forward p l i n ep) a m) →
    let counted := s.journal.updEntry i fun e => { e with inFlight := e.inFlight - 1 }
    let refused := s.mgmt.record
      ⟨.memoryError, some n, some ep, some l, some i, .request .forward k.toNat⟩
    (s.power.device ≠ .drain → s.engine.queue = [] → (s.stream n).state = .open →
    exec (.memoryResponse k .ok d) s = .next { s with
      port := s.port.withTag k.toNat .free
      journal := counted
      epochs := s.epochs.withStream n { s.stream n with inFlight := (s.stream n).inFlight - 1 }
      host := s.host.answerWrite p .ok }
    ∧ exec (.memoryResponse k .error d) s = .next { s with
      port := s.port.withTag k.toNat .free
      journal := counted
      epochs := s.epochs.withStream n { s.stream n with
        inFlight := (s.stream n).inFlight - 1, doomed := true }
      host := s.host.answerWrite p .memory
      mgmt := refused })
    ∧ (∀ q : Pair, s.engine.queue = [] → (s.stream n).state = .committing →
      (s.stream n).doomed = false → (s.stream n).kept = some ⟨.commit, q⟩ →
      (s.stream n).inFlight = 1 → s.journal.canonical →
      s.withinCeiling → s.hasCapturing n (s.stream n).epoch = false →
      (∀ e ∈ s.journal.entries, e.stream = n → e.epoch = (s.stream n).epoch →
        s.port.untiedFrom e.index) →
      let closed := { s.stream n with
        state := .closed, age := .stopped 0, doomed := false, kept := none, inFlight := 0 }
      let left := counted.entries.filter fun e =>
        !(e.stream == n && e.epoch == (s.stream n).epoch && e.isIn .live)
      let committed := ({ s with
        port := s.port.withTag k.toNat .free
        journal := { s.journal with entries := left }
        epochs := s.epochs.withStream n closed
        host := (s.host.answerWrite p .ok).answerWrite q .ok } : State)
      (s.power.device ≠ .drain → s.wc.hold = [] → exec (.memoryResponse k .ok d) s = .next committed)
      ∧ (∀ x ∈ s.host.readSlots, s.power.device = .drain → s.power.phase = .settling →
        x.answered = false → s.wc.hold = [] →
        exec (.memoryResponse k .ok d) s = .next { committed with
          power := { s.power with commits := s.power.commits + 1 } })
      ∧ ∀ it : HeldItem, s.power.device ≠ .drain → s.wc.hold = [it] → it.stream = n →
        it.epoch = none → it.reason = .epochWait →
        (∀ x, it.kind = .marker x → exec (.memoryResponse k .ok d) s = .next { committed with
          host := committed.host.answerWrite it.pair .ok
          wc := { s.wc with hold := [] } })
        ∧ ∀ y g, s.power.device = .ready → it.kind = .write y →
          committed.journal.atLine? y = none → committed.hasRoom n →
          (s.port.withTag k.toNat .free).freeGeneral? = some g →
          exec (.memoryResponse k .ok d) s = .next { committed with
            wc := { s.wc with hold := [] }
            epochs := { (s.epochs.withStream n { closed with
                state := .open, epoch := closed.epoch + 1#16, opening := s.epochs.opening
                age := .running s.now }) with opening := s.epochs.opening + 1#32 }
            journal := ⟨insertEntry ⟨lowestFree 0 left, y, n, closed.epoch + 1#16,
              s.journal.counter, .capturing it.pair, 0, 0, 0⟩ left, s.journal.counter + 1#32⟩
            port := committed.port.withIssued g (.capture (lowestFree 0 left) y) s.now none })
    ∧ (s.wc.hold = [] → (s.stream n).state = .committing → (s.stream n).inFlight = 1 →
      s.hasCapturing n (s.stream n).epoch = false → s.engine.queue = [] →
      let answered := fun (r : Stream) (st : WriteStatus) => ({ s with
        port := s.port.withTag k.toNat .free
        journal := counted
        epochs := s.epochs.withStream n r
        host := s.host.answerWrite p st } : State)
      let staying : Stream := { s.stream n with inFlight := 0, doomed := true }
      (∀ x ∈ s.host.readSlots, s.power.device = .drain → s.power.phase = .settling →
        x.answered = false →
        ((s.stream n).doomed = true →
          exec (.memoryResponse k .ok d) s = .next (answered staying .ok))
        ∧ exec (.memoryResponse k .error d) s = .next { answered staying .memory with mgmt := refused })
      ∧ ∀ es, s.power.device = .ready → s.restoresFree →
        counted.selectable es n (s.stream n).epoch → s.journal.canonical →
        let rolling : Stream := { staying with
          state := .rolling, origin := some .committing, lossCause := some .doomed
          age := .stopped ((s.stream n).age.valueAt s.now) }
        let job : Job := ⟨.epoch, n, (s.stream n).epoch, .doomed, .restore, [], 0, 0, false⟩
        let rolled := fun st : WriteStatus => ({ answered rolling st with
          engine := { s.engine with queue := [job] } } : State).restoring (es.take 4)
        ((s.stream n).doomed = true → exec (.memoryResponse k .ok d) s = .next (rolled .ok))
        ∧ exec (.memoryResponse k .error d) s = .next { rolled .memory with mgmt := refused })
    ∧ ∀ (j : Job) (es : List Entry), s.power.device ≠ .drain → (s.stream n).state = .rolling →
      (s.stream n).inFlight = 1 → s.engine.queue = [j] → j.kind = .epoch → j.stream = n →
      j.phase = .settle → s.hasCapturing n j.epoch = false → s.restoresFree →
      counted.selectable es n j.epoch → s.journal.canonical →
      exec (.memoryResponse k .ok d) s = .next (({ s with
        port := s.port.withTag k.toNat .free
        journal := counted
        epochs := s.epochs.withStream n { s.stream n with inFlight := 0 }
        host := s.host.answerWrite p .ok
        engine := { s.engine with queue := [{ j with phase := .restore, retrySet := [] }] } }
          : State).restoring (es.take 4))

/-- The last restore write of a job ends the job, and its answer with it. Answered OK it frees its entry
and cuts the ties of poisoned tags to it, or leaves it LINGER with its ties while strays are out, outside
DRAIN; answered ERROR the entry keeps its image in FAILED with its restore failures one higher up to 255.
An EPOCH job then moves its stream by Table 2-3, row by row: its state, the answer to its kept marker, its
losses and the notice owed, and EPOCH_LOST and STREAM_HALTED are raised by Table 5-3; in DRAIN the tallies
count, and a job from before the handing-over that leaves its stream HALTED is followed by a RETRY job. A
RETRY job moves its stream to CLOSED or ABANDONED by the notice owed, or leaves it HALTED, and one of a
RESUME raises COMMAND_DONE. MEMORY_ERROR comes last (LOG 19). A linger re-restore frees its entry by the
same rule, or leaves it FAILED, which halts a CLOSED or ABANDONED stream with notice owed, and rolls an
OPEN or COMMITTING one back, doomed and with cause DOOMED, in DRAIN with cause DRAIN alone; while the
stream is ROLLING or HALTED nothing else comes of it. How a job ends whose cause and origin Table 2-3 does
not list (MARK or AGED from COMMITTING), and that STREAM_HALTED after a failed linger re-restore has
detail bytes 00h, are the model's (LOG 29) (R5, R6, R18, R21, R47, R51, R99, R100, R101, R103, R104, R123,
R148, R172). -/
def Obligations.LastRestoreEndsJob : Prop :=
  (∀ (s : State) (k : BitVec 6) (d : Block) (j : Job) (i a m : Nat) (l : LineAddr) (e : Entry)
      (im : Block),
    s.noPassOwed → s.wc.hold = [] → s.port.queue = [] → s.withinCeiling →
    s.journal.canonical →
    s.engine.queue = [j] → s.engine.lingerPending = [] → s.engine.positions = [⟨i, false⟩] →
    j.phase = .restore →
    s.port.tags[k.toNat]? = some (.inUse (.restore i l false) a m) → s.entry? i = some e →
    e.body = .holding .restoring im → e.stream = j.stream →
    j.candidates s = [] → s.streamFailed j.stream = 0 →
    let r := s.stream j.stream
    let ended := ({ s with
      port := s.port.withTag k.toNat .free
      engine := { s.engine with queue := [], positions := [] } } : State)
    let freed := e.strays = 0 ∨ s.power.device = .drain
    let restored := if freed then s.journal.removeEntry i
      else s.journal.updEntry i fun e => { e with body := .holding .linger im }
    let failed := s.journal.updEntry i fun e =>
      { e with body := .holding .failed im, failures := min (e.failures + 1) 255 }
    let lost := if j.cause = .mgmt ∨ j.cause = .line ∨ j.cause = .aged then
        s.mgmt.record ⟨.epochLost, some j.stream, some j.epoch, none, none, .cause j.cause⟩
      else s.mgmt
    let halted := fun g : Mgmt =>
      (g.record ⟨.streamHalted, some j.stream, some j.epoch, none, none, .failedCount 1⟩)
    let refused : EventRec :=
      ⟨.memoryError, some e.stream, some e.epoch, some l, some i, .request .restore k.toNat⟩
    let answer := fun st : WriteStatus => match r.kept with
      | some x => s.host.answerWrite x.pair st
      | none => s.host
    let closed : Stream := { r with
      state := .closed, age := .stopped 0, doomed := false, kept := none, origin := none
      lossRestored := j.restored + 1, lossFailed := 0, noticeOwed := false }
    let abandoned : Stream := { r with
      state := .abandoned, kept := none, origin := none
      lossRestored := j.restored + 1, lossFailed := 0, noticeOwed := true }
    let nowHalted : Stream := { r with
      state := .halted, kept := none, origin := none
      lossRestored := j.restored, lossFailed := 1, noticeOwed := r.kept.isNone }
    let draining := s.power.device = .drain
    let running := s.power.device = .ready
      ∨ (draining ∧ s.power.phase = .rollingBack ∧ s.host.readSlots ≠ [])
    let good := ({ ended with
      engine := { ended.engine with
        restoredTally := s.engine.restoredTally + if draining then 1 else 0 }
      port := if freed then ended.port.cutTies i else ended.port
      journal := restored } : State)
    let bad := ({ ended with
      engine := { ended.engine with failedTally := s.engine.failedTally + if draining then 1 else 0 }
      journal := failed } : State)
    (running → j.kind = .epoch →
      (j.cause = .mark →
        exec (.memoryResponse k .ok d) s = .next { good with
          host := answer .ok, epochs := s.epochs.withStream j.stream closed })
      ∧ (j.cause = .drain →
        exec (.memoryResponse k .ok d) s = .next { good with
          host := answer .lost, epochs := s.epochs.withStream j.stream closed })
      ∧ ((j.cause = .doomed ∨ j.cause = .mgmt ∨ j.cause = .line ∨ j.cause = .aged) →
        (r.origin = some .committing → exec (.memoryResponse k .ok d) s = .next { good with
          host := answer .lost, mgmt := lost
          epochs := s.epochs.withStream j.stream closed })
        ∧ (r.origin = some .open → exec (.memoryResponse k .ok d) s = .next { good with
          host := answer .lost, mgmt := lost
          epochs := s.epochs.withStream j.stream abandoned }))
      ∧ ((j.prior = false ∨ ¬ draining) →
        exec (.memoryResponse k .error d) s = .next { bad with
          host := answer .memory
          epochs := s.epochs.withStream j.stream nowHalted
          mgmt := (halted lost).record refused })
      ∧ (j.prior = true → draining → ∃ t, exec (.memoryResponse k .error d) s = .next t
        ∧ (t.stream j.stream).state = .halted
        ∧ t.engine.queue.map (fun q => (q.kind, q.stream, q.cause, q.prior))
          = [(.retry, j.stream, .drain, false)]))
    ∧ (running → j.kind = .retry → j.retrySet = [] → r.state = .halted →
      let done := fun (g : Mgmt) (restored failed : Nat) => if j.cause = .mgmt then
          { (g.record ⟨.commandDone, some j.stream, none, none, none, .retryDone restored failed⟩) with
            retryOut := s.mgmt.retryOut.filter (· != j.stream) }
        else g
      exec (.memoryResponse k .ok d) s = .next { good with
        epochs := s.epochs.withStream j.stream
          (if r.noticeOwed then { r with state := .abandoned }
          else { r with state := .closed, age := .stopped 0, doomed := false })
        mgmt := done s.mgmt (j.restored + 1) 0 }
      ∧ ((j.prior = false ∨ ¬ draining) → exec (.memoryResponse k .error d) s = .next { bad with
        mgmt := (done (halted s.mgmt) j.restored 1).record refused })))
  ∧ ∀ (s : State) (k : BitVec 6) (d : Block) (i a m : Nat) (l : LineAddr) (e : Entry) (im : Block),
    s.noPassOwed → s.wc.hold = [] → s.port.queue = [] → s.withinCeiling →
    s.journal.canonical → s.engine.lingerPending = [] → s.engine.positions = [⟨i, true⟩] →
    let draining := s.power.device = .drain
    (s.power.device = .ready
      ∨ (draining ∧ s.power.phase = .rollingBack ∧ s.host.readSlots ≠ [])
      ∨ (draining ∧ s.power.phase = .settling ∧ ∃ x ∈ s.host.readSlots, x.answered = false)) →
    s.port.tags[k.toNat]? = some (.inUse (.restore i l true) a m) → s.entry? i = some e →
    e.body = .holding .restoring im →
    let r := s.stream e.stream
    let ended := ({ s with
      port := s.port.withTag k.toNat .free
      engine := { s.engine with positions := [] } } : State)
    let freed := e.strays = 0 ∨ draining
    let failed := ({ ended with
      engine := { ended.engine with failedTally := s.engine.failedTally + if draining then 1 else 0 }
      journal := s.journal.updEntry i fun e =>
        { e with body := .holding .failed im, failures := min (e.failures + 1) 255 } } : State)
    let refused : EventRec :=
      ⟨.memoryError, some e.stream, some e.epoch, some l, some i, .request .lingerRestore k.toNat⟩
    (s.engine.queue = [] → exec (.memoryResponse k .ok d) s = .next { ended with
      engine := { ended.engine with lingerTally := s.engine.lingerTally + if draining then 1 else 0 }
      port := if freed then ended.port.cutTies i else ended.port
      journal := if freed then s.journal.removeEntry i
        else s.journal.updEntry i fun e => { e with body := .holding .linger im } })
    ∧ (s.engine.queue = [] → (r.state = .closed ∨ r.state = .abandoned) →
      exec (.memoryResponse k .error d) s = .next { failed with
        epochs := s.epochs.withStream e.stream { r with state := .halted, noticeOwed := true }
        mgmt := (s.mgmt.record
          ⟨.streamHalted, some e.stream, none, some e.line, some i, .none⟩).record refused })
    ∧ (∀ o : Origin, s.engine.queue = [] → s.isAt e.stream o → 0 < r.inFlight →
      let cause : RollCause := if draining then .drain else .doomed
      exec (.memoryResponse k .error d) s = .next { failed with
        epochs := s.epochs.withStream e.stream { r with
          state := .rolling, doomed := r.doomed || !decide draining
          origin := some o, lossCause := some cause
          age := .stopped (r.age.valueAt s.now) }
        engine := { failed.engine with
          queue := [⟨.epoch, e.stream, r.epoch, cause, .settle, [], 0, 0, false⟩] }
        mgmt := s.mgmt.record refused })
    ∧ ((s.engine.queue = [] ∨ ∃ j, s.settles j) → (r.state = .rolling ∨ r.state = .halted) →
      exec (.memoryResponse k .error d) s = .next { failed with mgmt := s.mgmt.record refused })

/-- When the response limit of an issued request expires, its tag is poisoned and the request settled: a
host read and a pass-through write are answered MEMORY; a forwarded write of an OPEN stream is answered
MEMORY and becomes a stray of its entry, to which the tag is tied, and its epoch is doomed. A capture's
entry is freed and its trigger answered MEMORY, or LOST when its stream is ROLLING, and the epoch doomed.
A restore write leaves its entry FAILED with its restore failures one higher up to 255, and gives its
position back, while its job goes on with another one outstanding. MEMORY_TIMEOUT is raised with the
request's kind, and only a forwarded write leaves a tie (R5, R6, R16, R34, R77, R99, R119, R123). The
clock is brought to the moment of expiry (LOG 2: the model's). -/
def Obligations.TimeoutPoisonsTag : Prop :=
  ∀ (s : State) (k : BitVec 6) (p : Pair) (l : LineAddr) (a m : Nat), s.quiet →
    (s.port.tags[k.toNat]? = some (.inUse (.hostRead p l) a m) →
      exec (.responseLimitExpiry k) s = .next { s with
        now := max s.now (a + m)
        port := s.port.withTag k.toNat (.poisoned none)
        host := s.host.answerRead p .memory (Vector.replicate 64 0#8)
        mgmt := s.mgmt.record ⟨.memoryTimeout, none, none, some l, none, .request .read k.toNat⟩ })
    ∧ (∀ (i : Nat) (n : StreamId) (ep : EpochNo), s.engineIdle → (s.stream n).state = .open →
      s.port.tags[k.toNat]? = some (.inUse (.forward p l i n ep) a m) →
      exec (.responseLimitExpiry k) s = .next { s with
        now := max s.now (a + m)
        port := s.port.withTag k.toNat (.poisoned (some ⟨i, l⟩))
        journal := s.journal.updEntry i fun e =>
          { e with inFlight := e.inFlight - 1, strays := e.strays + 1 }
        epochs := s.epochs.withStream n { s.stream n with
          inFlight := (s.stream n).inFlight - 1, doomed := true }
        host := s.host.answerWrite p .memory
        mgmt := s.mgmt.record
          ⟨.memoryTimeout, some n, some ep, some l, some i, .request .forward k.toNat⟩ })
    ∧ (s.port.tags[k.toNat]? = some (.inUse (.passWrite p l) a m) →
      exec (.responseLimitExpiry k) s = .next { s with
        now := max s.now (a + m)
        port := s.port.withTag k.toNat (.poisoned none)
        host := s.host.answerWrite p .memory
        mgmt := s.mgmt.record ⟨.memoryTimeout, none, none, some l, none, .request .pass k.toNat⟩ })
    ∧ (∀ (i : Nat) (e : Entry), s.port.tags[k.toNat]? = some (.inUse (.capture i l) a m) →
      s.entry? i = some e → e.body = .capturing p → (s.stream e.stream).epoch = e.epoch →
      s.power.device = .ready → s.wc.hold = [] → s.engine.lingerPending = [] → s.withinCeiling →
      s.port.untiedFrom i →
      let freed := fun st : WriteStatus => ({ s with
        now := max s.now (a + m)
        port := s.port.withTag k.toNat (.poisoned none)
        journal := s.journal.removeEntry i
        host := s.host.answerWrite p st
        epochs := s.epochs.withStream e.stream { s.stream e.stream with doomed := true }
        mgmt := s.mgmt.record ⟨.memoryTimeout, some e.stream, some e.epoch, some l, some i,
          .request .capture k.toNat⟩ } : State)
      ((s.stream e.stream).state = .open →
        exec (.responseLimitExpiry k) s = .next (freed .memory))
      ∧ ∀ j, s.settles j → (s.stream e.stream).state = .rolling →
        exec (.responseLimitExpiry k) s = .next (freed .lost))
    ∧ ∀ (i : Nat) (e : Entry) (im : Block) (j : Job) (q : Position),
      s.port.tags[k.toNat]? = some (.inUse (.restore i l false) a m) → s.entry? i = some e →
      e.body = .holding .restoring im → s.engine.queue = [j] → j.phase = .restore →
      j.candidates s = [] → (j.kind = .retry → i ∉ j.retrySet) → s.engine.lingerPending = [] →
      s.engine.positions = [⟨i, false⟩, q] → q.linger = false → s.journal.canonical →
      exec (.responseLimitExpiry k) s = .next { s with
        now := max s.now (a + m)
        port := s.port.withTag k.toNat (.poisoned none)
        journal := s.journal.updEntry i fun e =>
          { e with body := .holding .failed im, failures := min (e.failures + 1) 255 }
        engine := { s.engine with positions := [q] }
        mgmt := s.mgmt.record ⟨.memoryTimeout, some e.stream, some e.epoch, some l, some i,
          .request .restore k.toNat⟩ }

/-! ### Timers and ROLLBACK_N -/

/-- A held item whose limited hold is over is answered REFUSED, leaves the queue, dooms its epoch if it
belonged to one, and raises HOLD_EXPIRED with its stream, epoch, line and reason. Its removal tests the
commit condition of a COMMITTING stream: while a write is in flight or a capture runs the stream stays
COMMITTING, and with neither the epoch that a member's expiry has doomed enters ROLLING in READY with
cause DOOMED and origin COMMITTING, its marker kept. Its job then waits in QUEUED, or restores the newest
LIVE entries, or with none ends at once, and the marker is answered LOST (R34, R36, R38, R45, R47, R80,
R81, R96, R97, R100). `State.expiresTo` equates the command's outcome, case by case, with the next state.
A hold for CAPTURE_WAIT or LINE_ORDER has no limit (Table 4-3): its expiry, and that of a pair that holds
no item, changes nothing (LOG 1). The clock is brought to the moment of expiry (LOG 2: the model's). -/
def Obligations.HoldExpiry : Prop :=
  (∀ (s : State) (it : HeldItem), s.quiet → s.wc.hold = [it] →
    (it.reason = .conflict ∨ it.reason = .admission ∨ it.reason = .epochWait) →
    let due := s.initTime + it.holdStart + (s.stream it.stream).holdLimit
    ({ s with now := max s.now due } : State).expiresTo it (exec (.holdLimitExpiry it.pair) s))
  ∧ ∀ (s : State) (p : Pair),
    (s.heldItem? p = none ∨ ∃ it, s.heldItem? p = some it
      ∧ (it.reason = .captureWait ∨ it.reason = .lineOrder)) →
    exec (.holdLimitExpiry p) s = .next s

/-- An OPEN epoch in READY that reaches its age limit enters ROLLING with cause AGED and origin OPEN, its
age stopped and its held members answered LOST. Its job waits in QUEUED or SETTLE, or restores the newest
LIVE entries, or with none ends at once, which leaves the stream ABANDONED with notice owed and raises
EPOCH_LOST; `State.rollsBackTo` equates the command's outcome, case by case, with the next state (R29,
R42, R45, R47, R95, R96, R97, R100, R101); in every other state of stream or device, and with age limit 0,
nothing changes (LOG 1: the model's). That the clock is brought to the due moment, at which the age stops,
is the model's choice (LOG 2). -/
def Obligations.AgeExpiryRolls : Prop :=
  ∀ (s : State) (n : StreamId) (since : Nat),
    (s.power.device = .ready → s.canRoll n → (s.stream n).state = .open →
      (s.stream n).ageLimit ≠ 0 → (s.stream n).age = .running since →
      let due := since + (s.stream n).ageLimit * 10
      ({ s with now := max s.now due } : State).rollsBackTo n .open .aged (exec (.ageExpiry n) s))
    ∧ ((s.power.device ≠ .ready ∨ (s.stream n).state ≠ .open ∨ (s.stream n).ageLimit = 0) →
      exec (.ageExpiry n) s = .next s)

/-- ROLLBACK_N is ignored outside READY; in READY, with nothing held, every OPEN or COMMITTING stream
leaves that state with its epoch number kept, and with loss cause LINE if the restore queue held no job of
it (a stream holds none in these states, R45). With an idle engine and writes in flight of each such
stream, each enters ROLLING with its origin, cause LINE and its age stopped, and its EPOCH job with cause
LINE joins the restore queue, the first of them settling, and nothing else changes. Where one stream alone
is OPEN or COMMITTING its job goes on by what the epoch holds: it waits, or restores the newest LIVE
entries, or with none ends at once, as for an ABORT, by `State.rollsBackTo`. With no stream OPEN or
COMMITTING nothing changes at all (R29, R41, R45, R47, R93, R94, R95, R96, R97, R100, R101; the order of
the streams is the model's choice, LOG 10). -/
def Obligations.RollbackLine : Prop :=
  (∀ s : State, s.power.device ≠ .ready → exec .rollbackNAssertion s = .next s)
  ∧ (∀ s : State, s.power.device = .ready → s.wc.hold = [] →
    ∃ t, exec .rollbackNAssertion s = .next t ∧ ∀ n : StreamId,
      (t.stream n).state ≠ .open ∧ (t.stream n).state ≠ .committing
      ∧ (t.stream n).epoch = (s.stream n).epoch
      ∧ (((s.stream n).state = .open ∨ (s.stream n).state = .committing) →
        (∀ j ∈ s.engine.queue, j.stream ≠ n) → (t.stream n).lossCause = some .line))
  ∧ (∀ s : State, s.power.device = .ready → s.noPassOwed → s.wc.hold = [] → s.engineIdle →
    let ends := fun n : StreamId =>
      (s.stream n).state == .open || (s.stream n).state == .committing
    (∀ n, ends n = true → 0 < (s.stream n).inFlight) →
    let rolled := fun n : StreamId => { s.stream n with
      state := .rolling, lossCause := some .line
      origin := if (s.stream n).state = .open then some .open else some .committing
      age := .stopped ((s.stream n).age.valueAt s.now) }
    let job := fun (n : StreamId) (p : JobPhase) =>
      (⟨.epoch, n, (s.stream n).epoch, .line, p, [], 0, 0, false⟩ : Job)
    let streams := Vector.ofFn fun n : StreamId => if ends n then rolled n else s.stream n
    exec .rollbackNAssertion s = .next { s with
      epochs := { s.epochs with streams := streams }
      engine := { s.engine with queue := match (List.finRange 8).filter ends with
        | [] => []
        | n :: rest => job n .settle :: rest.map fun m => job m .queued } })
  ∧ (∀ (s : State) (n : StreamId) (o : Origin), s.power.device = .ready → s.canRoll n → s.isAt n o →
    (∀ m, m ≠ n → (s.stream m).state ≠ .open ∧ (s.stream m).state ≠ .committing) →
    s.rollsBackTo n o .line (exec .rollbackNAssertion s))
  ∧ ∀ s : State, s.power.device = .ready → s.quiet →
    (∀ n, (s.stream n).state ≠ .open ∧ (s.stream n).state ≠ .committing) → s.engineIdle →
    exec .rollbackNAssertion s = .next s

/-! ### Meter -/

/-- A survey that ends in RUNNING publishes: raw reading, store reading, fault tests, credit figure and
cleared stale indication, evaluates shortfall and begins the next survey with the configuration then in
force; METER_FAULT and SHORTFALL are raised at their onsets alone, and nothing outside the meter and the
clock changes. INIT's first survey goes on to steps 4 and 5: INIT_DONE is raised with the last-drain
report, the supply and PFAIL_N are read, and the part enters READY, or SPENT with cause POWER when the
supply is not good, not reported so or sagged since, and with cause PFAIL when PFAIL_N is low (R140, R127,
R129, R130, R133, R135, R136, R142, R143, R161). The clock's due moment (LOG 2), the fault tests shown at
each publication while faulted (LOG 16) cause POWER with both levels failed (LOG 27) and the free value
that says whether a supply reported good has sagged (LOG 30) are the model's. -/
def Obligations.SurveyEndPublishes : Prop :=
  ∀ (s : State) (raw : BitVec 16) (sv : Survey), s.quiet → s.wc.hold = [] →
    s.meter.mode = .running sv →
    let store := (min (max ((raw.toNat : Int) - s.meter.offset) 0) 65535).toNat
    let faultRaw := raw.toNat = 0 ∨ raw.toNat = 65535
    let faultOffset := s.meter.offset < -512 ∨ 512 < s.meter.offset
    let credit := if faultRaw ∨ faultOffset then 0
      else if sv.reserve < store then min ((store - sv.reserve) / sv.cost) 4095 else 0
    let short := min (min credit s.meter.cap) 512 < s.entryCount
    let now := max s.now (sv.start + sv.period)
    let meter : Meter := { s.meter with
      raw := raw.toNat, store := store, credit := credit, stale := false
      faultRaw := decide faultRaw, faultOffset := decide faultOffset, shortfall := decide short
      mode := .running ⟨now, s.meter.period, s.meter.reserve, s.meter.cost⟩ }
    let faulted := if (faultRaw ∨ faultOffset) ∧ s.meter.faultRaw = false ∧ s.meter.faultOffset = false then
        s.mgmt.record ⟨.meterFault, none, none, none, none,
          .meterFault (decide faultRaw) (decide faultOffset)⟩
      else s.mgmt
    let published := ({ s with
      now := now
      meter := meter
      mgmt := if short ∧ s.meter.shortfall = false then
          faulted.record ⟨.shortfall, none, none, none, none,
            .shortfall s.entryCount (min (min credit s.meter.cap) 512)⟩
        else faulted } : State)
    (¬ (s.power.device = .init ∧ s.power.initStep = some .firstSurvey) →
      exec (.surveyEnd raw) s = .next published)
    ∧ (s.power.device = .init → s.power.initStep = some .firstSurvey → s.store.op = .idle →
      let done : EventRec := ⟨.initDone, none, none, none, none, .initDone s.store.report⟩
      let announced := ({ published with mgmt := published.mgmt.record done } : State)
      let spent := fun c : DrainCause => ({ announced with power := { s.power with
        device := .spent, initStep := none, cause := c, phase := .none, settleSince := none } } : State)
      let sagged := ({ spent .power with
        pins := { s.pins with supplyGood := false }, freeCount := s.freeCount + 1 } : State)
      (s.pins.supplyGood = true → s.pins.pfailHigh = true → s.busEmpty →
        exec (.surveyEnd raw) s = .next (if Config.supplySagged s.freeCount then sagged
          else { announced with
            power := { s.power with device := .ready, initStep := none }
            freeCount := s.freeCount + 1 }))
      ∧ (s.pins.supplyGood = false → exec (.surveyEnd raw) s = .next (spent .power))
      ∧ (s.pins.supplyGood = true → s.pins.pfailHigh = false →
        exec (.surveyEnd raw) s = .next (if Config.supplySagged s.freeCount then sagged
          else { spent .pfail with freeCount := s.freeCount + 1 })))

/-- CALIBRATE in READY starts a calibration of a RUNNING meter, latching the period and setting the stale
indication, is outstanding and answered ACCEPTED; while the meter calibrates it is BUSY. The first zero
survey leaves its reading and the second begins; the second sets the offset to the mean of the two, any
half dropped toward zero, and the meter is RUNNING with a new survey; a calibration asked for raises
COMMAND_DONE and is no longer outstanding. The end of INIT's own calibration raises no event, and INIT's
first survey begins (R127, R132, R133, R134, R172; LOG 2 for the clock). -/
def Obligations.CalibrationRuns : Prop :=
  (∀ s : State, s.linkOpen → s.power.device = .ready →
    (∀ sv, s.meter.mode = .running sv → exec .calibrate s = .next { s with
      meter := { s.meter with mode := .calibrating ⟨s.now, s.meter.period, none, true⟩, stale := true }
      mgmt := { s.mgmt with calibrateOut := true, response := some ⟨.accepted, []⟩ } })
    ∧ ∀ c, s.meter.mode = .calibrating c → exec .calibrate s = .next (s.respond .busy []))
  ∧ ∀ (s : State) (x : BitVec 16) (c : Calibration), s.meter.mode = .calibrating c →
    let now := max s.now (c.start + c.period)
    (c.first = none → exec (.zeroSurveyEnd x) s = .next { s with
      now := now
      meter := { s.meter with mode := .calibrating { c with start := now, first := some x.toInt } } })
    ∧ (∀ a : Int, c.first = some a → ¬ (s.power.device = .init ∧ s.power.initStep = some .calibrate) →
      let offset := (a + x.toInt).tdiv 2
      let meter : Meter := { s.meter with
        offset := offset, mode := .running ⟨now, s.meter.period, s.meter.reserve, s.meter.cost⟩ }
      (c.requested = false → exec (.zeroSurveyEnd x) s = .next { s with now := now, meter := meter })
      ∧ (c.requested = true → exec (.zeroSurveyEnd x) s = .next { s with
        now := now
        meter := meter
        mgmt := { (s.mgmt.record ⟨.commandDone, none, none, none, none,
          .calibrateDone (some (decide (-512 ≤ offset ∧ offset ≤ 512))) offset⟩) with
          calibrateOut := false } }))
    ∧ ∀ a : Int, c.first = some a → c.requested = false → s.power.device = .init →
      s.power.initStep = some .calibrate →
      exec (.zeroSurveyEnd x) s = .next { s with
        now := now
        meter := { s.meter with
          offset := (a + x.toInt).tdiv 2
          mode := .running ⟨now, s.meter.period, s.meter.reserve, s.meter.cost⟩ }
        power := { s.power with initStep := some .firstSurvey } }

/-! ### Power control and outcome store -/

/-- POR from OFF sets every block to its POR values, keeps the outcome slots, samples the straps, and
INIT begins: with RESET_N high it goes on to the scan, with RESET_N low it stays in step 1 (R141, R142,
R143, R158, R164). Outside OFF nothing changes (LOG 1). -/
def Obligations.PorBeginsInit : Prop :=
  ∀ (s : State) (straps : BitVec 2),
    (s.power.device = .off →
      exec (.por straps) s = .next { s with
        pins := { s.pins with supplyGood := true }
        initTime := s.now
        host := ⟨[], [], [], []⟩
        cls := Classifier.por
        journal := ⟨[], 0#32⟩
        epochs := ⟨Vector.replicate 8 Stream.por, 0#32⟩
        wc := ⟨[], false⟩
        engine := ⟨[], [], [], 0, 0, 0⟩
        port := ⟨Vector.replicate 48 .free, [], 20, []⟩
        meter := Meter.por
        power := ⟨.init, some (if s.pins.resetHigh then .store else .clear), .none, .none, false, 0, none⟩
        store := ⟨s.store.slots, [], 0, true, 0#32, ⟨.none, none, .none⟩,
          if s.pins.resetHigh then .scanning else .idle⟩
        mgmt := ⟨0x5C#7 + straps.setWidth 7, .idle, [], [], none, false, false, [], 0#16, 0#16, []⟩ })
    ∧ (s.power.device ≠ .off → exec (.por straps) s = .next s)

/-- On a loss of supply the part enters OFF from every state: journal, slots, requests, streams, hold
queue, restore queue, tags and reporting are lost, and the outcome slots are kept, but for the slot
being programmed, which is left ERASED, INVALID or with its record, and the sector being erased (R141,
R156, R157). That what is lost is held in OFF at its values after POR, as far as it is stated here (LOG 21),
and that requests waiting on the host bus go on waiting (LOG 5), are the model's choices. -/
def Obligations.SupplyLossEntersOff : Prop :=
  ∀ s : State, s.power.device ≠ .off → ∃ t, exec .supplyLoss s = .next t
    ∧ t.power.device = .off ∧ t.pins = { s.pins with supplyGood := false }
    ∧ t.host = ⟨[], [], [], []⟩ ∧ t.journal = ⟨[], 0#32⟩ ∧ t.wc.hold = [] ∧ t.engine.queue = []
    ∧ t.port.queue = [] ∧ (∀ i : Fin 48, t.port.tags[i] = .free)
    ∧ (∀ n : StreamId, t.stream n = Stream.por)
    ∧ t.mgmt.response = none ∧ t.mgmt.flags = 0#16 ∧ t.mgmt.events = []
    ∧ t.bus = s.bus ∧ t.now = s.now
    ∧ (s.store.op = .idle ∨ s.store.op = .scanning → t.store.slots = s.store.slots)
    ∧ (∀ (j : Fin 64) (b : Bool) (r : Block), s.store.op = .programming j b r →
      (∀ i : Fin 64, i ≠ j → t.store.slots[i] = s.store.slots[i])
      ∧ (judgeSlot t.store.slots[j] = .erased ∨ judgeSlot t.store.slots[j] = .invalid
        ∨ t.store.slots[j] = r))
    ∧ ∀ (x : Fin 4) (y : EraseWhy), s.store.op = .erasing x y →
      ∀ i : Fin 64, i.val / 16 ≠ x.val → t.store.slots[i] = s.store.slots[i]

/-- A trip, PFAIL_N or RESET_N assertion or RESTART in READY begins a drain with its cause: phase
SETTLING, drain commits and tallies 0, and the BEGIN record handed to a usable store. A RESET_N is
remembered; RESTART is outstanding and answered ACCEPTED. While a read is unanswered the drain waits in
SETTLING. What is held is answered LOST, which dooms the epoch of a held member. An unusable store is
handed nothing to write. A calibration that runs is abandoned: the offset is kept, a new survey begins,
and COMMAND_DONE is raised with result ABANDONED. With every request answered but kept markers, SETTLING
is over in the same act, and the remaining work is handed over behind the job in the queue: an EPOCH job
with cause DRAIN for each OPEN stream and each doomed COMMITTING one, oldest epoch first, then a RETRY job
for each HALTED stream without a job, ascending, and every LINGER entry joins the linger-pending list,
ascending (R45, R90, R104, R134, R144, R145, R146, R147, R148, R156, R172; LOG 31 for a line that stands
low already, LOG 32 for epochs of one age, LOG 35 for the bits without a use in the BEGIN record). -/
def Obligations.TriggerBeginsDrain : Prop :=
  (∀ (s : State) (sv : Survey) (x : ReadSlot), s.power.device = .ready → s.noPassOwed →
    x ∈ s.host.readSlots → x.answered = false →
    let begun := fun (cause : DrainCause) (remembered : Bool) =>
      let record := beginSlot s.store.drainSeq cause s.entryCount s.openItems
      ({ s with
        power := { s.power with
          device := .drain, cause := cause, phase := .settling, commits := 0
          resetRemembered := s.power.resetRemembered || remembered }
        engine := { s.engine with restoredTally := 0, failedTally := 0, lingerTally := 0 }
        store := if s.store.usable then { s.store with op := .programming s.store.next false record }
          else s.store } : State)
    (s.meter.mode = .running sv → s.wc.hold = [] →
      exec .supplyTrip s = .next { begun .power false with
        pins := { s.pins with supplyGood := false } }
      ∧ exec .pfailNAssertion s = .next { begun .pfail false with
        pins := { s.pins with pfailHigh := false } }
      ∧ exec .resetNAssertion s = .next { begun .reset true with
        pins := { s.pins with resetHigh := false } }
      ∧ (s.linkIdle → exec .restart s = .next { begun .restart false with
        mgmt := { s.mgmt with restartOut := true, response := some ⟨.accepted, []⟩ } }))
    ∧ (∀ it : HeldItem, s.meter.mode = .running sv → s.wc.hold = [it] →
      exec .supplyTrip s = .next { begun .power false with
        pins := { s.pins with supplyGood := false }
        wc := { s.wc with hold := [] }
        host := s.host.answerWrite it.pair .lost
        epochs := if it.epoch.isSome then
            s.epochs.withStream it.stream { s.stream it.stream with doomed := true }
          else s.epochs })
    ∧ ∀ c : Calibration, s.meter.mode = .calibrating c → s.wc.hold = [] →
      let survey : Survey := ⟨s.now, s.meter.period, s.meter.reserve, s.meter.cost⟩
      let told := s.mgmt.record
        ⟨.commandDone, none, none, none, none, .calibrateDone none s.meter.offset⟩
      exec .supplyTrip s = .next { begun .power false with
        pins := { s.pins with supplyGood := false }
        meter := { s.meter with mode := .running survey }
        mgmt := { told with calibrateOut := false } })
  ∧ ∀ (s : State) (sv : Survey) (j : Job) (l : List StreamId), s.power.device = .ready →
    s.noPassOwed → s.meter.mode = .running sv → s.wc.hold = [] → s.journal.canonical →
    (∀ x ∈ s.host.readSlots, x.answered = true) →
    (∀ x ∈ s.host.writeSlots, x.answered = true
      ∨ (x.duplicate = false ∧ ∃ n, (s.stream n).kept.map (·.pair) = some x.req.pair)) →
    s.engine.queue = [j] → j.kind = .epoch → j.phase = .restore → s.engine.lingerPending = [] →
    s.engine.positions.length = 4 → (∃ q ∈ s.engine.positions, q.linger = false) →
    (∀ n, n ∈ l ↔ ((s.stream n).state = .open
      ∨ ((s.stream n).state = .committing ∧ (s.stream n).doomed = true))) →
    let age := fun n : StreamId => (s.epochs.opening - (s.stream n).opening).toNat
    l.Pairwise (fun a b => age b < age a ∨ (age b = age a ∧ a < b)) →
    let job := fun (k : JobKind) (n : StreamId) =>
      (⟨k, n, (s.stream n).epoch, .drain, .queued, [], 0, 0, false⟩ : Job)
    let retried := (List.finRange 8).filter fun n => (s.stream n).state == .halted && j.stream != n
    let rolled := fun n : StreamId => { s.stream n with
      state := .rolling, lossCause := some .drain
      origin := if (s.stream n).state = .open then some .open else some .committing
      age := .stopped ((s.stream n).age.valueAt s.now) }
    let streams := Vector.ofFn fun n : StreamId => if n ∈ l then rolled n else s.stream n
    let lingering := (s.journal.entries.filter fun e => e.isIn .linger).map (·.index)
    let record := beginSlot s.store.drainSeq .power s.entryCount s.openItems
    exec .supplyTrip s = .next { s with
      pins := { s.pins with supplyGood := false }
      power := { s.power with device := .drain, cause := .power, phase := .rollingBack, commits := 0 }
      epochs := { s.epochs with streams := streams }
      engine := {
        queue := { j with prior := true } :: (l.map (job .epoch) ++ retried.map (job .retry))
        positions := s.engine.positions, lingerPending := lingering
        restoredTally := 0, failedTally := 0, lingerTally := 0 }
      store := if s.store.usable then { s.store with op := .programming s.store.next false record }
        else s.store }

/-- A drain's course is changed by no event but a loss: levels are taken, a RESET_N assertion is
remembered, and ROLLBACK_N and the settle timer do nothing; in READY a rise of a line, or the supply
becoming good, changes its level alone (R41, R140, R151, R152; LOG 1 for the settle timer, LOG 31 for a
line that stands low already). -/
def Obligations.LevelsInDrainAndReady : Prop :=
  (∀ s : State, s.power.device = .drain →
    exec .supplyTrip s = .next { s with pins := { s.pins with supplyGood := false } }
    ∧ exec .pfailNAssertion s = .next { s with pins := { s.pins with pfailHigh := false } }
    ∧ exec .resetNAssertion s = .next { s with
        pins := { s.pins with resetHigh := false }
        power := { s.power with resetRemembered := true } }
    ∧ exec .rollbackNAssertion s = .next s
    ∧ exec .settleTimerExpiry s = .next s)
  ∧ ∀ s : State, (s.power.device = .drain ∨ s.power.device = .ready) →
    exec .supplyGood s = .next { s with pins := { s.pins with supplyGood := true } }
    ∧ exec .pfailNRise s = .next { s with pins := { s.pins with pfailHigh := true } }
    ∧ exec .resetNRise s = .next { s with pins := { s.pins with resetHigh := true } }

/-- A trip or a PFAIL_N assertion in INIT, with the store idle or scanning, sends the part to SPENT with
its cause and drain phase none; the scan ends, the settle timer does not run, and a meter still STOPPED
begins its first survey. A RESET_N assertion restarts INIT at step 1 with the configuration cleared, where
it stays until RESET_N rises; then the scan of a usable store begins and reset is no longer remembered
(R133, R142, R143, R152; LOG 13 for the moment of the clearing, LOG 15 for that of the stale figure, LOG
31 for a line that stands low already). -/
def Obligations.EventsInInit : Prop :=
  (∀ s : State, s.power.device = .init → (s.store.op = .idle ∨ s.store.op = .scanning) →
      let spent := fun cause : DrainCause => ({ s with
        power := { s.power with
          device := .spent, initStep := none, cause := cause, phase := .none, settleSince := none }
        store := { s.store with op := .idle }
        meter := { s.meter with mode := match s.meter.mode with
          | .stopped => .running ⟨s.now, s.meter.period, s.meter.reserve, s.meter.cost⟩
          | m => m } } : State)
      exec .supplyTrip s = .next { spent .power with pins := { s.pins with supplyGood := false } }
      ∧ exec .pfailNAssertion s = .next { spent .pfail with pins := { s.pins with pfailHigh := false } })
  ∧ (∀ s : State, s.power.device = .init → ∃ t, exec .resetNAssertion s = .next t
    ∧ t.power.device = .init ∧ t.power.initStep = some .clear ∧ t.power.resetRemembered = true
    ∧ t.pins = { s.pins with resetHigh := false } ∧ t.store.op = .idle
    ∧ t.cls = Classifier.por ∧ t.journal = ⟨[], 0#32⟩ ∧ t.wc.hold = [] ∧ t.engine.queue = []
    ∧ (∀ i : Fin 48, t.port.tags[i] = .free) ∧ t.port.queue = [] ∧ t.port.limit = 20
    ∧ (∀ n : StreamId, t.stream n = { Stream.por with epoch := (s.stream n).epoch })
    ∧ t.meter.period = 100 ∧ t.meter.reserve = 8000 ∧ t.meter.cost = 40 ∧ t.meter.cap = 512
    ∧ t.meter.offset = s.meter.offset ∧ t.meter.credit = s.meter.credit ∧ t.meter.stale = true
    ∧ t.meter.shortfall = false
    ∧ t.mgmt.response = none ∧ t.mgmt.flags = 0#16 ∧ t.mgmt.mask = 0#16 ∧ t.mgmt.events = []
    ∧ t.mgmt.receiver = s.mgmt.receiver)
  ∧ ∀ s : State, s.power.device = .init → s.power.initStep = some .clear → s.store.usable = true →
    exec .resetNRise s = .next { s with
      pins := { s.pins with resetHigh := true }
      power := { s.power with initStep := some .store, resetRemembered := false }
      store := { s.store with op := .scanning } }

/-- In SPENT the settle timer starts from 0 when the three conditions come to hold, goes on while they
hold, and stops at a trip or a fall of either line. A rise of a line that leaves all three to hold reads
the supply, and unless it has sagged starts a timer that does not run. SUPPLY_GOOD starts the timer from 0
also where it ran, because the supply has then stood below the good level; a RESET_N assertion is
remembered (R140, R152; LOG 30 for the free value of the reading and for the restart, LOG 31 for a line
that stands low already). -/
def Obligations.SettleTimer : Prop :=
  ∀ s : State, s.power.device = .spent →
    let withPins := fun p : Pins => ({ s with pins := p } : State)
    let risen := fun p : Pins => if p.settled ∧ s.power.settleSince.isSome = true then withPins p
      else (withPins p).settling
    let stopped := fun p : Pins =>
      ({ withPins p with power := { s.power with settleSince := none } } : State)
    exec .supplyGood s = .next { s with
        pins := { s.pins with supplyGood := true }
        power := { s.power with settleSince :=
          if s.pins.pfailHigh = true ∧ s.pins.resetHigh = true then some s.now else none } }
    ∧ exec .pfailNRise s = .next (risen { s.pins with pfailHigh := true })
    ∧ exec .resetNRise s = .next (risen { s.pins with resetHigh := true })
    ∧ exec .supplyTrip s = .next (stopped { s.pins with supplyGood := false })
    ∧ exec .pfailNAssertion s = .next (stopped { s.pins with pfailHigh := false })
    ∧ exec .resetNAssertion s = .next { s with
        pins := { s.pins with resetHigh := false }
        power := { s.power with settleSince := none, resetRemembered := true } }

/-- When the settle timer reaches 10 ms the part enters INIT: the blocks are cleared, the configuration is
cleared if a reset is remembered and kept otherwise, epoch numbers, offset and credit figure are kept, the
figure stale (Table 7-3; LOG 15 for the moment), and the scan of a usable store begins (R26, R54, R64,
R65, R118, R137, R142, R152, R176). The clock's due moment (LOG 2), that a calibration still running in
SPENT goes on (LOG 36), and that an expiry without a running timer changes nothing (LOG 1), are the
model's choices. -/
def Obligations.SettleExpiryBeginsInit : Prop :=
  (∀ (s : State) (since : Nat), s.power.device = .spent → s.power.settleSince = some since →
    s.pins.resetHigh = true → s.store.usable = true →
    ∃ t, exec .settleTimerExpiry s = .next t
    ∧ t.now = max s.now (since + 10)
    ∧ t.power = { s.power with
        device := .init, initStep := some .store, phase := .none, commits := 0, settleSince := none
        resetRemembered := false }
    ∧ t.store = { s.store with op := .scanning }
    ∧ t.host = ⟨[], [], [], []⟩ ∧ t.journal = ⟨[], 0#32⟩ ∧ t.wc = ⟨[], false⟩
    ∧ t.engine = ⟨[], [], [], 0, 0, 0⟩ ∧ t.epochs.opening = 0#32
    ∧ (∀ i : Fin 48, t.port.tags[i] = .free) ∧ t.port.queue = []
    ∧ t.bus = s.bus ∧ t.pins = s.pins
    ∧ (s.power.resetRemembered = false → t.cls = s.cls ∧ t.port.limit = s.port.limit
      ∧ t.meter = { s.meter with shortfall := false, stale := true } ∧ t.mgmt = s.mgmt
      ∧ ∀ n : StreamId, t.stream n = { Stream.por with
          epoch := (s.stream n).epoch, policy := (s.stream n).policy
          holdLimit := (s.stream n).holdLimit, quota := (s.stream n).quota
          ageLimit := (s.stream n).ageLimit })
    ∧ (s.power.resetRemembered = true → t.cls = Classifier.por ∧ t.port.limit = 20
      ∧ t.meter = { s.meter with
          shortfall := false, stale := true, period := 100, reserve := 8000, cost := 40, cap := 512 }
      ∧ t.mgmt = { s.mgmt with response := none, flags := 0#16, mask := 0#16, events := [] }
      ∧ ∀ n : StreamId, t.stream n = { Stream.por with epoch := (s.stream n).epoch }))
  ∧ ∀ s : State, s.power.device ≠ .spent ∨ s.power.settleSince = none →
    exec .settleTimerExpiry s = .next s

/-- Programming ends: verified good, the slot is VALID and the next slot moves one on in ring order;
failed, the slot is INVALID, the store unusable and STORE_FAULT raised with the slot. When it was all that
ROLLING_BACK waited for, the END record with the drain's number, commits and tallies is handed over for
the next slot, or, the store now unusable, the part enters SPENT at once. After the END record, good or
failed, the part enters SPENT, where the settle timer starts from 0 if the three conditions hold already,
and a RESTART drain raises COMMAND_DONE (R140, R146, R149, R150, R152, R156, R160, R172). With no program
in progress nothing changes (LOG 1), the supply is read at the entry by a free value (LOG 30), and the
verification compares the whole slot with the record handed over (LOG 37): the model's. -/
def Obligations.ProgramDone : Prop :=
  ∀ (s : State) (j : Fin 64) (b : Block),
    let good := { s.store with
      slots := s.store.slots.set j b, table := s.store.table.set j .valid, op := .idle, next := j + 1 }
    let bad := fun r : Block => { s.store with
      slots := s.store.slots.set j r, table := s.store.table.set j .invalid, op := .idle
      usable := false }
    let fault := s.mgmt.record ⟨.storeFault, none, none, none, none, .program j.val⟩
    let restartDone := fun g : Mgmt => { (g.record ⟨.commandDone, none, none, none, none,
      .restartDone s.store.drainSeq s.engine.restoredTally s.engine.failedTally⟩) with
      restartOut := false }
    let last := fun g : Mgmt => if s.power.cause = .restart then restartDone g else g
    (∀ x : ReadSlot, s.store.op = .programming j false b → s.power.device = .drain →
      s.power.phase = .settling → s.noPassOwed → x ∈ s.host.readSlots → x.answered = false →
      exec (.slotProgramDone b) s = .next { s with store := good }
      ∧ ∀ r : Block, r ≠ b →
        exec (.slotProgramDone r) s = .next { s with store := bad r, mgmt := fault })
    ∧ (∀ sv : Survey, s.store.op = .programming j false b → s.power.device = .drain →
      s.power.phase = .rollingBack → s.noPassOwed → s.engineFinished → s.port.nothingOutstanding →
      s.host.writeSlots = [] → s.host.readSlots = [] → s.meter.mode = .running sv →
      let record := endSlot s.store.drainSeq s.power.commits s.engine.restoredTally
        s.engine.failedTally s.engine.lingerTally
      (s.store.usable = true → exec (.slotProgramDone b) s = .next { s with
        power := { s.power with phase := .recording }
        store := { good with op := .programming (j + 1) true record } })
      ∧ ∀ r : Block, r ≠ b → exec (.slotProgramDone r) s
          = .next (State.inSpent { s with store := bad r, mgmt := last fault }))
    ∧ (∀ sv : Survey, s.store.op = .programming j true b → s.meter.mode = .running sv →
      exec (.slotProgramDone b) s = .next (State.inSpent { s with store := good, mgmt := last s.mgmt })
      ∧ ∀ r : Block, r ≠ b → exec (.slotProgramDone r) s
          = .next (State.inSpent { s with store := bad r, mgmt := last fault }))
    ∧ ((∀ j x y, s.store.op ≠ .programming j x y) → exec (.slotProgramDone b) s = .next s)

/-- The scan judges every slot. Then the lowest-numbered torn sector is erased (LOG 33), and with none torn the
ring is prepared: the next slot is the first ERASED one from the start point on, with a second one behind
it, or a sector is erased to make room; the number follows the newest VALID record's, and the report is
NONE, COMPLETE, PARTIAL or INTERRUPTED with the cause of that number's BEGIN. An erase ends: a repair
verified good goes on in the same way, with its sector ERASED; after step 3 of preparation the next slot is
the sector's first, and after step 4 it stays; verified failed, the slots are entered as read back, the
store is unusable with the report UNRECORDED and STORE_FAULT is raised with the sector. Then INIT goes on to
the meter's calibration (R133, R157, R158, R159, R160, R161, R180; LOG 17 for a sector under erase). With no
scan running nothing changes (LOG 1: the model's). -/
def Obligations.StoreWorkDone : Prop :=
  (∀ s : State, s.store.op = .scanning → s.store.slots = Vector.replicate 64 erasedBlock →
    exec .scanDone s = .next { s with
      store := { s.store with
        table := List.replicate 64 .erased, next := 0, drainSeq := 0#32
        report := ⟨.none, none, .none⟩, op := .idle }
      power := { s.power with initStep := some .calibrate }
      meter := { s.meter with mode := .calibrating ⟨s.now, s.meter.period, none, false⟩, stale := true } })
  ∧ (∀ s : State, s.store.op ≠ .scanning → exec .scanDone s = .next s)
  ∧ (∀ (s : State) (x : Fin 4) (y : EraseWhy) (b : Vector Block 16), s.store.op = .erasing x y →
    (∃ j : Fin 16, b[j] ≠ erasedBlock) →
    ∃ t, exec (.sectorEraseDone b) s = .next t
      ∧ t.store.usable = false ∧ t.store.op = .idle
      ∧ t.store.report = ⟨.unrecorded, none, s.power.cause⟩
      ∧ (∀ j : Fin 16, t.store.slots[16 * x.val + j.val]? = some b[j])
      ∧ (∀ i : Fin 64, i.val / 16 ≠ x.val → t.store.slots[i] = s.store.slots[i])
      ∧ t.power = { s.power with initStep := some .calibrate }
      ∧ t.mgmt = s.mgmt.record ⟨.storeFault, none, none, none, none, .erase x.val⟩)
  ∧ ∀ (s : State) (x : Fin 4) (b : Vector Block 16), s.store.op = .erasing x .roomForTwo →
    (∀ j : Fin 16, b[j] = erasedBlock) → s.store.table.length = 64 →
    ∃ t, exec (.sectorEraseDone b) s = .next t
      ∧ t.store.usable = s.store.usable ∧ t.store.op = .idle ∧ t.store.next = s.store.next
      ∧ (∀ j : Fin 16, t.store.slots[16 * x.val + j.val]? = some erasedBlock
          ∧ t.store.table[16 * x.val + j.val]? = some .erased)
      ∧ (∀ i : Fin 64, i.val / 16 ≠ x.val → t.store.slots[i] = s.store.slots[i]
          ∧ t.store.table[i.val]? = s.store.table[i.val]?)
      ∧ t.store.drainSeq = (match t.store.newest with
        | some r => r.seq + 1#32
        | none => 0#32)
      ∧ t.power = { s.power with initStep := some .calibrate } ∧ t.mgmt = s.mgmt
  ∧ (∀ s : State, s.store.op = .scanning →
    let scanned := { s.store with table := s.store.slots.toList.map judgeSlot, op := .idle }
    ({ s with store := scanned } : State).preparesTo (exec .scanDone s))
  ∧ (∀ (s : State) (x : Fin 4), s.store.op = .erasing x .repair → s.store.table.length = 64 →
    let repaired := { s.store with
      slots := Vector.ofFn fun i : Fin 64 => if i.val / 16 = x.val then erasedBlock else s.store.slots[i]
      table := s.store.table.mapIdx fun i y => if i / 16 = x.val then .erased else y
      op := .idle }
    ({ s with store := repaired } : State).preparesTo
      (exec (.sectorEraseDone (Vector.replicate 16 erasedBlock)) s))
  ∧ ∀ (s : State) (x : Fin 4), s.store.op = .erasing x .noErasedSlot → s.store.table.length = 64 →
    ∃ t, exec (.sectorEraseDone (Vector.replicate 16 erasedBlock)) s = .next t
      ∧ t.store.usable = s.store.usable ∧ t.store.op = .idle ∧ t.store.next.val = 16 * x.val
      ∧ t.store.table = s.store.table.mapIdx (fun i y => if i / 16 = x.val then .erased else y)
      ∧ (∀ i : Fin 64, t.store.slots[i] = if i.val / 16 = x.val then erasedBlock else s.store.slots[i])
      ∧ t.store.drainSeq = (match t.store.newest with
        | some r => r.seq + 1#32
        | none => 0#32)
      ∧ t.power = { s.power with initStep := some .calibrate } ∧ t.mgmt = s.mgmt

/-! ### Management port -/

/-- A read frame at the part's address has its address byte acknowledged, and sends status, length, payload
and check of the pending response, or an EMPTY frame, as far as the controller acknowledges them; after the
first byte it refuses, and after the check byte, MDAT is released and reads FFh. The response is consumed
when its check byte is sent, acknowledged or not. The receiver is SENDING until a stop. A read at another
address is not acknowledged and changes nothing else, and one in OFF changes nothing. A stuck link returns
the receiver to IDLE: a partial request is not judged, and the pending response stays as it is (R164, R165,
R166, R168; LOG 6 for the fields that show the link). -/
def Obligations.ReadFrameAndStuckLink : Prop :=
  (∀ s : State, exec .linkStuck s = .next { s with mgmt := { s.mgmt with receiver := .idle } })
  ∧ ∀ (s : State) (a : Byte) (acks : List Bool) (ended : Bool),
    (s.linkOpen → a.extractLsb' 1 7 = s.mgmt.address → a.getLsbD 0 = true →
      let r := s.mgmt.response.getD ⟨.empty, []⟩
      let body := [r.status.code, BitVec.ofNat 8 r.payload.length] ++ r.payload
      let frame := body ++ [crc8 (a :: body)]
      let done := if ended then Receiver.idle else .sending acks.length
      ((∀ x ∈ acks, x = true) → exec (.readFrame a acks ended) s = .next { s with mgmt := { s.mgmt with
        acked := [true]
        sent := frame.take acks.length ++ List.replicate (acks.length - frame.length) 0xFF#8
        response := if frame.length ≤ acks.length then none else s.mgmt.response
        receiver := done } })
      ∧ ∀ before after : List Bool, acks = before ++ false :: after → (∀ x ∈ before, x = true) →
        let sent := frame.take (before.length + 1)
        exec (.readFrame a acks ended) s = .next { s with mgmt := { s.mgmt with
          acked := [true]
          sent := sent ++ List.replicate (acks.length - sent.length) 0xFF#8
          response := if frame.length ≤ before.length + 1 then none else s.mgmt.response
          receiver := done } })
    ∧ (s.linkOpen → a.extractLsb' 1 7 ≠ s.mgmt.address → a.getLsbD 0 = true →
      exec (.readFrame a acks ended) s = .next { s with mgmt := { s.mgmt with acked := [false] } })
    ∧ (s.power.device = .off → exec (.readFrame a acks ended) s = .next s)

/-- The tests of a request frame that come before its command, in order: a probe makes no response, one
or two bytes are BAD_LENGTH, a wrong check BAD_CHECK, a frame over 43 bytes or of a length other than its
length byte plus 3 BAD_LENGTH, an unknown code BAD_COMMAND, a length other than the command's BAD_LENGTH.
The part acknowledges its address byte and the first 43 bytes after it and refuses every byte beyond; an
unfinished frame is collected. Of a frame for another address it acknowledges no byte, and nothing else
changes (R164, R165, R167; LOG 6 for the field that shows the acknowledgements). -/
def Obligations.RequestFrameTests : Prop :=
  ∀ (s : State) (a : Byte), s.linkOpen → a.getLsbD 0 = false →
    let heard := fun acks : List Bool => ({ s with mgmt := { s.mgmt with acked := acks } } : State)
    let all := fun n : Nat => heard (List.replicate (n + 1) true)
    (a.extractLsb' 1 7 ≠ s.mgmt.address → ∀ (bytes : List Byte) ended,
      exec (.requestFrame a bytes ended) s = .next (heard (List.replicate (bytes.length + 1) false)))
    ∧ (a.extractLsb' 1 7 = s.mgmt.address →
      exec (.requestFrame a [] true) s = .next (all 0)
      ∧ (∀ bytes, bytes.length ≤ 43 → exec (.requestFrame a bytes false) s
          = .next ((all bytes.length).setReceiver (.receiving a bytes false)))
      ∧ (∀ bytes more : List Byte, bytes.length = 43 → more ≠ [] →
        exec (.requestFrame a (bytes ++ more) false) s
          = .next ((heard (List.replicate 44 true ++ List.replicate more.length false)).setReceiver
            (.receiving a bytes true)))
      ∧ (∀ bytes : List Byte, bytes.length = 1 ∨ bytes.length = 2 →
        exec (.requestFrame a bytes true) s = .next ((all bytes.length).respond .badLength []))
      ∧ (∀ (code len check : Byte) (pay : List Byte), pay.length ≤ 40 →
        check ≠ crc8 ([a, code, len] ++ pay) →
        exec (.requestFrame a ([code, len] ++ pay ++ [check]) true) s
          = .next ((all (pay.length + 3)).respond .badCheck []))
      ∧ (∀ (code len : Byte) (pay : List Byte), pay.length ≤ 40 →
        let frame := [code, len] ++ pay ++ [crc8 ([a, code, len] ++ pay)]
        let good := all (pay.length + 3)
        (len.toNat ≠ pay.length →
          exec (.requestFrame a frame true) s = .next (good.respond .badLength []))
        ∧ (len.toNat = pay.length → payloadLength code = none →
          exec (.requestFrame a frame true) s = .next (good.respond .badCommand []))
        ∧ (∀ k, len.toNat = pay.length → payloadLength code = some k → len.toNat ≠ k →
          exec (.requestFrame a frame true) s = .next (good.respond .badLength [])))
      ∧ ∀ bytes more : List Byte, bytes.length = 43 → more ≠ [] →
        bytes.getLast? = some (crc8 (a :: bytes.dropLast)) →
        exec (.requestFrame a (bytes ++ more) true) s
          = .next ((heard (List.replicate 44 true ++ List.replicate more.length false)).respond
            .badLength []))

/-- A request frame that passes the tests has each of its bytes acknowledged and acts as its command. A
RESUME whose mode is neither RETRY nor DISCARD is NOT_NOW outside READY and BAD_VALUE in READY, and
FLAGS_CLEAR by its frame clears the named flags and is answered OK (R165, R167, R169, R173, R178; LOG 6
for the field that shows the acknowledgements). -/
def Obligations.FrameActsAsCommand : Prop :=
  ∀ (s : State) (a : Byte), s.linkOpen → a.getLsbD 0 = false → a.extractLsb' 1 7 = s.mgmt.address →
    (∀ (code len : Byte) (pay : List Byte) (c : Instr), payloadLength code = some pay.length →
      len.toNat = pay.length → frameCommand code pay = some (.command c) →
      exec (.requestFrame a ([code, len] ++ pay ++ [crc8 ([a, code, len] ++ pay)]) true) s
        = exec c { s with mgmt := { s.mgmt with acked := List.replicate (pay.length + 4) true } })
    ∧ (∀ n mode : Byte, mode ≠ 0#8 → mode ≠ 1#8 →
      exec (.requestFrame a [0x09#8, 0x02#8, n, mode, crc8 [a, 0x09#8, 0x02#8, n, mode]] true) s
        = .next (({ s with mgmt := { s.mgmt with acked := List.replicate 6 true } } : State).respond
          (if s.power.device = .ready then .badValue else .notNow) []))
    ∧ ∀ h l : Byte,
      exec (.requestFrame a [0x11#8, 0x02#8, h, l, crc8 [a, 0x11#8, 0x02#8, h, l]] true) s
        = .next { s with mgmt := { s.mgmt with
          acked := List.replicate 6 true
          flags := s.mgmt.flags &&& ~~~(h ++ l : BitVec 16)
          response := some ⟨.ok, []⟩ } }

/-- STATUS reports device, drain, counts, meter and tallies in part 0, and memory port, store and
reporting in part 1, byte by byte; another part is BAD_VALUE. It changes nothing but the pending response
(R104, R124, R138, R163, R170, R178). Operation number 0 for an idle or scanning store and sequence number 0
when absent (LOG 28), and 0 in the bits R178 gives no use (LOG 35), are the model's choices. -/
def Obligations.StatusReports : Prop :=
  ∀ s : State, s.linkOpen →
    exec (.status 0#8) s = .next (s.respond .ok
      ([s.power.device.code, s.power.cause.code, s.power.phase.code, yesNo s.power.resetRemembered,
        BitVec.ofNat 8 s.power.commits] ++ bytesOf 2 s.entryCount ++ bytesOf 2 s.effectiveCeiling
      ++ ([s.meter.mode.code] ++ bytesOf 2 s.meter.raw ++ signedBytes s.meter.offset
        ++ bytesOf 2 s.meter.store
        ++ bytesOf 2 ((if s.meter.stale then 2 ^ 15 else 0) + s.meter.credit)
        ++ [(if s.meter.faultRaw then 1#8 else 0#8) ||| (if s.meter.faultOffset then 2#8 else 0#8),
          yesNo s.meter.shortfall]
        ++ bytesOf 2 s.meter.period ++ bytesOf 2 s.meter.reserve ++ bytesOf 2 s.meter.cost
        ++ bytesOf 2 s.meter.cap)
      ++ (bytesOf 2 s.engine.restoredTally ++ bytesOf 2 s.engine.failedTally
        ++ bytesOf 2 s.engine.lingerTally)))
    ∧ exec (.status 1#8) s = .next (s.respond .ok
      ([BitVec.ofNat 8 (s.port.countGeneral Tag.isFree), BitVec.ofNat 8 (s.port.countReserved Tag.isFree),
        BitVec.ofNat 8 (s.port.countGeneral Tag.isPoisoned),
        BitVec.ofNat 8 (s.port.countReserved Tag.isPoisoned),
        BitVec.ofNat 8 s.port.queue.length, BitVec.ofNat 8 s.port.limit]
      ++ ([yesNo s.store.usable, BitVec.ofNat 8 s.store.next.val] ++ bytesOf 4 s.store.drainSeq.toNat
        ++ [BitVec.ofNat 8 (s.store.countSlots .erased), BitVec.ofNat 8 (s.store.countSlots .valid),
          BitVec.ofNat 8 (s.store.countSlots .invalid), s.store.op.code,
          BitVec.ofNat 8 s.store.op.number, s.store.report.outcome.code]
        ++ bytesOf 4 (seqNat s.store.report.seq) ++ [s.store.report.cause.code])
      ++ (bytesOf 2 s.mgmt.flags.toNat ++ bytesOf 2 s.mgmt.mask.toNat
        ++ [BitVec.ofNat 8 s.mgmt.events.length, s.mgmt.longByte, s.mgmt.retryByte])))
    ∧ ∀ part : Byte, part ≠ 0#8 → part ≠ 1#8 →
      exec (.status part) s = .next (s.respond .badValue [])

/-- R55: STREAM_INFO reports the record of a stream as it stands, byte by byte, in every device state in
which the port executes commands, changes nothing but the pending response, and answers a number outside
0 to 7 BAD_VALUE. -/
def Obligations.StreamInfoReports : Prop :=
  ∀ (s : State) (n : Byte), s.linkOpen →
    (∀ h : n.toNat < 8,
      let m : StreamId := ⟨n.toNat, h⟩
      let r := s.stream m
      exec (.streamInfo n) s = .next (s.respond .ok
        ([r.state.code] ++ bytesOf 2 r.epoch.toNat ++ bytesOf 4 r.opening.toNat
        ++ bytesOf 2 (s.journal.entries.countP fun e => e.stream == m)
        ++ bytesOf 2 (s.journal.entries.countP fun e => e.stream == m && e.isIn .failed)
        ++ [BitVec.ofNat 8 (s.wc.hold.countP fun it => it.stream == m), BitVec.ofNat 8 r.inFlight,
          yesNo r.doomed]
        ++ bytesOf 4 (r.age.valueAt s.now) ++ [keptCode r.kept, lossCode r.lossCause]
        ++ bytesOf 2 r.lossRestored ++ bytesOf 2 r.lossFailed ++ [yesNo r.noticeOwed, r.policy.code]
        ++ bytesOf 2 r.holdLimit ++ bytesOf 2 r.quota ++ bytesOf 2 r.ageLimit)))
    ∧ (8 ≤ n.toNat → exec (.streamInfo n) s = .next (s.respond .badValue []))

/-- R68: REGION_INFO reports the four fields of a window and SOURCE_MAP_INFO all 32 map entries, in every
device state in which the port executes commands; both change nothing but the pending response, and a
window outside 0 to 7 is BAD_VALUE. -/
def Obligations.RegionAndMapReports : Prop :=
  ∀ (s : State) (w : Byte), s.linkOpen →
    (∀ h : w.toNat < 8,
      let win := s.cls.windows[w.toNat]
      exec (.regionInfo w) s = .next (s.respond .ok
        ([yesNo win.enabled, win.kind.code] ++ bytesOf 4 win.base ++ bytesOf 4 win.count)))
    ∧ (8 ≤ w.toNat → exec (.regionInfo w) s = .next (s.respond .badValue []))
    ∧ exec .sourceMapInfo s = .next (s.respond .ok (s.cls.sourceMap.toList.map fun x => match x with
      | none => 0x08#8
      | some n => BitVec.ofNat 8 n.val))

/-- FAILED_LIST lists the first four FAILED entries of a stream from an index on; ENTRY_IMAGE reports a
half of a held before-image with state, line and restore failures, and is EMPTY with the state alone for
a FREE or CAPTURING entry; OUTCOME reports the VALID record with exactly k newer ones, by number modulo 2^32
with the END of a number newer than its BEGIN: its slot number, and then bytes 0 to 11 of an END, or bytes 0
to 6 and the items of a BEGIN; it is EMPTY without one. Values out of range are BAD_VALUE. They change
nothing but the pending response (R24, R155, R162, R169, R171, R178, R180). -/
def Obligations.JournalAndOutcomeReads : Prop :=
  ∀ s : State, s.linkOpen →
    (∀ (n : Byte) (x : BitVec 16), (∀ (h : n.toNat < 8), x.toNat < 512 →
      let items := (s.journal.entries.filter fun e =>
        e.stream == ⟨n.toNat, h⟩ && e.isIn .failed && decide (x.toNat ≤ e.index)).take 4
      exec (.failedList n x) s = .next (s.respond .ok ([BitVec.ofNat 8 items.length]
        ++ (items.map fun e => bytesOf 2 e.index ++ bytesOf 5 e.line.toNat).flatten)))
      ∧ ((8 ≤ n.toNat ∨ 512 ≤ x.toNat) →
        exec (.failedList n x) s = .next (s.respond .badValue [])))
    ∧ (∀ (i : BitVec 16) (second : Bool), i.toNat < 512 →
      let half : Byte := if second then 1#8 else 0#8
      (s.entry? i.toNat = none → exec (.entryImage i half) s = .next (s.respond .empty [0#8]))
      ∧ (∀ e, s.entry? i.toNat = some e → e.isCapturing = true →
        exec (.entryImage i half) s = .next (s.respond .empty [1#8]))
      ∧ ∀ e st im, s.entry? i.toNat = some e → e.body = .holding st im →
        exec (.entryImage i half) s = .next (s.respond .ok ([entryCode (some e)]
          ++ bytesOf 5 e.line.toNat ++ [BitVec.ofNat 8 e.failures]
          ++ (if second then im.toList.drop 32 else im.toList.take 32))))
    ∧ (∀ (i : BitVec 16) (half : Byte), (512 ≤ i.toNat ∨ 2 ≤ half.toNat) →
      exec (.entryImage i half) s = .next (s.respond .badValue []))
    ∧ ∀ k : Byte,
      (k.toNat < 64 → s.store.kthNewest k.toNat = none →
        exec (.outcome k) s = .next (s.respond .empty []))
      ∧ (∀ r, k.toNat < 64 → s.store.kthNewest k.toNat = some r →
        exec (.outcome k) s = .next (s.respond .ok (outcomePayload r s.store.slots[r.slot])))
      ∧ (64 ≤ k.toNat → exec (.outcome k) s = .next (s.respond .badValue []))
      ∧ (let valid := fun i : Fin 64 => s.store.table[i.val]? == some .valid
        let bytes := fun i : Fin 64 => s.store.slots[i].toList
        let isEnd := fun i : Fin 64 => s.store.slots[i][0] == 0x20#8
        let number := fun i : Fin 64 => word32 s.store.slots[i][1] s.store.slots[i][2]
          s.store.slots[i][3] s.store.slots[i][4]
        let newer := fun x i : Fin 64 =>
          if number x = number i then isEnd x && !isEnd i
          else decide ((number x - number i).toNat < 2 ^ 31)
        let rank := fun i : Fin 64 => (List.finRange 64).countP fun x => valid x && newer x i
        (∀ i, k.toNat < 64 → valid i = true → rank i = k.toNat →
          (∀ x, valid x = true → rank x = k.toNat → x = i) →
          exec (.outcome k) s = .next (s.respond .ok (BitVec.ofNat 8 i.val :: (if isEnd i then
              (bytes i).take 12
            else (bytes i).take 7 ++ ((bytes i).drop 8).take (4 * s.store.slots[i][7].toNat)))))
        ∧ ((∀ i, valid i = true → rank i ≠ k.toNat) → k.toNat < 64 →
          exec (.outcome k) s = .next (s.respond .empty [])))

/-- STREAM_SET in INIT and READY replaces the four configuration fields of a stream together and is
answered OK; with no age and no held item at its new limit, and nothing held or the quota as it was,
nothing else changes. An OPEN epoch whose age stands at or beyond the new limit is rolled back with cause
AGED as by its expiry, and an item held for a limited reason for the new limit or longer expires as by its
own (`State.rollsBackTo`, `State.expiresTo`). In READY a write held with reason ADMISSION meets the
changed quota in the pass of the same act: it stays held, or is admitted. Values out of range are
BAD_VALUE and change nothing else (R11, R12, R14, R26, R29, R42, R80, R81, R84, R85, R169). -/
def Obligations.StreamSetReplaces : Prop :=
  ∀ (s : State) (n : StreamId) (p : HoldPolicy) (h q a : BitVec 16), s.linkOpen →
    (s.power.device = .init ∨ s.power.device = .ready) → s.noPassOwed →
    let code : Byte := match p with
      | .wait => 0#8
      | .refuse => 1#8
    let cmd := Instr.streamSet (BitVec.ofNat 8 n.val) code h q a
    let replaced := ({ s with
      epochs := s.epochs.withStream n { s.stream n with
        policy := p, holdLimit := h.toNat, quota := q.toNat, ageLimit := a.toNat }
      mgmt := { s.mgmt with response := some ⟨.ok, []⟩ } } : State)
    let limited := fun it : HeldItem =>
      it.reason = .conflict ∨ it.reason = .admission ∨ it.reason = .epochWait
    let held := fun it : HeldItem => (s.now - s.initTime) - it.holdStart
    let young := a.toNat = 0 ∨ (s.stream n).state ≠ .open ∨ s.power.device = .init
      ∨ (s.stream n).age.valueAt s.now < a.toNat * 10
    (1 ≤ h.toNat → 1 ≤ q.toNat → q.toNat ≤ 512 →
      (young → (∀ it ∈ s.wc.hold, it.stream = n → limited it → held it < h.toNat) →
        (s.wc.hold = [] ∨ q.toNat = (s.stream n).quota) → exec cmd s = .next replaced)
      ∧ (¬ young → s.wc.hold = [] → s.engine.lingerPending = [] →
        replaced.rollsBackTo n .open .aged (exec cmd s))
      ∧ ∀ it, young → s.wc.hold = [it] → it.stream = n →
        (limited it → h.toNat ≤ held it → replaced.expiresTo it (exec cmd s))
        ∧ ∀ l t, held it < h.toNat → q.toNat ≠ (s.stream n).quota → s.power.device = .ready →
          it.kind = .write l → it.reason = .admission → it.epoch = some (s.stream n).epoch →
          s.journal.atLine? l = none →
          (¬ replaced.hasRoom n → exec cmd s = .next replaced)
          ∧ (replaced.hasRoom n → s.canIssue t → exec cmd s = .next (replaced.admitted it l t)))
    ∧ ∀ m c : Byte, (8 ≤ m.toNat ∨ 2 ≤ c.toNat ∨ h = 0#16 ∨ q = 0#16 ∨ 512 < q.toNat) →
      exec (.streamSet m c h q a) s = .next (s.respond .badValue [])

/-- REGION_SET in INIT and READY replaces the four fields of a window after its checks, made in order: a
window number outside 0 to 7, an enable byte that is neither 00h nor 01h, a kind outside Table 11-4, range
and overlap are BAD_VALUE, a working entry in the old extent of an enabled window or in the new extent is
BUSY, and otherwise the answer is OK. SOURCE_MAP_SET replaces one entry after its checks: a source or
value out of range is BAD_VALUE, a present or requested stream that is not CLOSED is BUSY, and otherwise
the answer is OK (R64, R65, R178). -/
def Obligations.ClassifierSettings : Prop :=
  (∀ (s : State) (w : Fin 8) (en : Bool) (kind : WindowKind) (b c : BitVec 32), s.linkOpen →
      (s.power.device = .init ∨ s.power.device = .ready) →
      let cmd := Instr.regionSet (BitVec.ofNat 8 w.val) (yesNo en) kind.code b c
      let inRange := 1 ≤ c.toNat ∧ c.toNat ≤ 2 ^ 28 ∧ b.toNat < 2 ^ 28 ∧ b.toNat + c.toNat ≤ 2 ^ 28
      let overlaps := en = true ∧ ∃ v : Fin 8, v ≠ w ∧ s.cls.windows[v].enabled = true
        ∧ b.toNat < s.cls.windows[v].base + s.cls.windows[v].count
        ∧ s.cls.windows[v].base < b.toNat + c.toNat
      let inWay := ∃ e ∈ s.journal.entries, s.cls.windows[w].covers e.line = true
        ∨ (b.toNat ≤ e.line.toNat / 64 ∧ e.line.toNat / 64 < b.toNat + c.toNat)
      (¬ inRange → exec cmd s = .next (s.respond .badValue []))
      ∧ (inRange → overlaps → exec cmd s = .next (s.respond .badValue []))
      ∧ (inRange → ¬ overlaps → inWay → exec cmd s = .next (s.respond .busy []))
      ∧ (inRange → ¬ overlaps → ¬ inWay → exec cmd s = .next { s with
          cls := { s.cls with windows := s.cls.windows.set w ⟨en, kind, b.toNat, c.toNat⟩ }
          mgmt := { s.mgmt with response := some ⟨.ok, []⟩ } }))
  ∧ ∀ (s : State), s.linkOpen → (s.power.device = .init ∨ s.power.device = .ready) →
    (∀ (x en kind : Byte) (b c : BitVec 32), (8 ≤ x.toNat ∨ 2 ≤ en.toNat ∨ 2 ≤ kind.toNat) →
      exec (.regionSet x en kind b c) s = .next (s.respond .badValue []))
    ∧ (∀ x m : Byte, (32 ≤ x.toNat ∨ 9 ≤ m.toNat) →
      exec (.sourceMapSet x m) s = .next (s.respond .badValue []))
    ∧ ∀ (x : SourceId) (m : Option StreamId),
      let cmd := Instr.sourceMapSet (BitVec.ofNat 8 x.val) (mapCode m)
      let busy := (∃ n, s.cls.sourceMap[x] = some n ∧ (s.stream n).state ≠ .closed)
        ∨ ∃ n, m = some n ∧ (s.stream n).state ≠ .closed
      (busy → exec cmd s = .next (s.respond .busy []))
      ∧ (¬ busy → exec cmd s = .next { s with
        cls := { s.cls with sourceMap := s.cls.sourceMap.set x m }
        mgmt := { s.mgmt with response := some ⟨.ok, []⟩ } })

/-- METER_SET in INIT and READY replaces the four values together, keeps what the survey in progress
latched, evaluates shortfall under the new cap and is answered OK; a period outside 50 to 1000 or no
multiple of 10, a cost of 0 and a cap above 512 are BAD_VALUE. In READY a write held with reason ADMISSION
whose line is in no entry is offered the new ceiling in the same act: with room it leaves the queue as the
trigger of a new CAPTURING entry and its capture read is issued, and without it keeps its place (R11, R12,
R14, R74, R84, R85, R131, R136). -/
def Obligations.MeterSetReplaces : Prop :=
  ∀ (s : State) (p r c k : BitVec 16), s.linkOpen →
    (s.power.device = .init ∨ s.power.device = .ready) → s.noPassOwed →
    let short := min (min s.meter.credit k.toNat) 512 < s.entryCount
    (50 ≤ p.toNat → p.toNat ≤ 1000 → p.toNat % 10 = 0 → c ≠ 0#16 → k.toNat ≤ 512 →
      let set := ({ s with
        meter := { s.meter with
          period := p.toNat, reserve := r.toNat, cost := c.toNat, cap := k.toNat
          shortfall := decide short }
        mgmt := { (if short ∧ s.meter.shortfall = false then
            s.mgmt.record ⟨.shortfall, none, none, none, none,
              .shortfall s.entryCount (min (min s.meter.credit k.toNat) 512)⟩
          else s.mgmt) with response := some ⟨.ok, []⟩ } } : State)
      (s.wc.hold = [] → exec (.meterSet p r c k) s = .next set)
      ∧ ∀ (it : HeldItem) (l : LineAddr) (g : Nat), s.power.device = .ready → s.wc.hold = [it] →
        it.kind = .write l → it.reason = .admission →
        it.epoch = some (s.stream it.stream).epoch → s.journal.atLine? l = none →
        (¬ set.hasRoom it.stream → exec (.meterSet p r c k) s = .next set)
        ∧ (set.hasRoom it.stream → s.canIssue g →
          let free := lowestFree 0 s.journal.entries
          exec (.meterSet p r c k) s = .next { set with
            wc := { s.wc with hold := [] }
            journal := ⟨insertEntry ⟨free, l, it.stream, (s.stream it.stream).epoch,
              s.journal.counter, .capturing it.pair, 0, 0, 0⟩ s.journal.entries,
              s.journal.counter + 1#32⟩
            port := s.port.withIssued g (.capture free l) s.now none }))
    ∧ ((p.toNat < 50 ∨ 1000 < p.toNat ∨ p.toNat % 10 ≠ 0 ∨ c = 0#16 ∨ 512 < k.toNat) →
      exec (.meterSet p r c k) s = .next (s.respond .badValue []))

/-- The response limit is 20 ms after POR and after a cleared configuration and is kept otherwise;
TIMEOUT_SET replaces it in INIT and READY for limits of 1 to 255 ms, is BAD_VALUE for 0 and NOT_NOW in
DRAIN and SPENT; a request takes the limit in force when it is issued, and TIMEOUT_SET leaves every
issued request its own (R118). -/
def Obligations.TimeoutSetAndLimit : Prop :=
  (∀ (s : State) (l : Byte), s.linkOpen →
    (s.power.device = .init ∨ s.power.device = .ready →
      (l ≠ 0#8 → exec (.timeoutSet l) s = .next { s with
        port := { s.port with limit := l.toNat }
        mgmt := { s.mgmt with response := some ⟨.ok, []⟩ } })
      ∧ (l = 0#8 → exec (.timeoutSet l) s = .next (s.respond .badValue [])))
    ∧ (s.power.device = .drain ∨ s.power.device = .spent →
      exec (.timeoutSet l) s = .next (s.respond .notNow [])))
  ∧ MemPort.por.limit = 20
  ∧ (∀ (c : Bool) (s : State), (s.clearBlocks c).port.limit = if c then 20 else s.port.limit)
  ∧ ∀ (t : Nat) (r : Request) (s : State), t < 48 →
    (s.issueOn t r).port.tags[t]? = some (.inUse r s.now s.port.limit)

/-- ABORT by the state of the stream (R40): OPEN and COMMITTING enter ROLLING with cause MGMT and their
origin, the kept marker staying, and ROLLING is left as it is, all answered OK; CLOSED, ABANDONED and
HALTED are answered NO_EPOCH; DRAIN and SPENT answer NOT_NOW and a stream number outside 0 to 7 BAD_VALUE.
Every held member is answered LOST. The job waits in QUEUED behind a current job that settles, or in
SETTLE while the epoch has a write in flight or a capture. With neither it enters RESTORE in the same act
and selects the four newest of its LIVE entries, or all of fewer, each RESTORING in a restore position
with its before-image written whole to its line on the reserved tags 44 to 47, here all free. With no LIVE
entry the job ends at once: a COMMITTING stream is CLOSED with its marker answered LOST, an OPEN one
ABANDONED with notice owed, and EPOCH_LOST is raised. `State.rollsBackTo` equates the command's outcome,
case by case, with the next state. (R3, R18, R34, R45, R47, R95, R96, R97, R98, R100, R101). -/
def Obligations.AbortByStreamState : Prop :=
  ∀ (s : State) (n : StreamId), s.linkOpen →
    (s.power.device = .init ∨ s.power.device = .ready →
      (∀ o : Origin, s.isAt n o → s.canRoll n →
        ({ s with mgmt := { s.mgmt with response := some ⟨.ok, []⟩ } } : State).rollsBackTo n o .mgmt
          (exec (.abort (BitVec.ofNat 8 n.val)) s))
      ∧ ((s.stream n).state = .rolling →
        exec (.abort (BitVec.ofNat 8 n.val)) s = .next (s.respond .ok []))
      ∧ ((s.stream n).state = .closed ∨ (s.stream n).state = .abandoned
          ∨ (s.stream n).state = .halted →
        exec (.abort (BitVec.ofNat 8 n.val)) s = .next (s.respond .noEpoch []))
      ∧ ∀ m : Byte, 8 ≤ m.toNat → exec (.abort m) s = .next (s.respond .badValue []))
    ∧ (s.power.device = .drain ∨ s.power.device = .spent →
      ∀ m : Byte, exec (.abort m) s = .next (s.respond .notNow []))

/-- RESUME with RETRY on a HALTED stream without a job is answered ACCEPTED, is outstanding, and its job
joins the young end of the restore queue (stated behind another job that still settles, so that it stays
QUEUED, and in an idle engine, where it enters RESTORE in the same act and selects the four newest of the
stream's FAILED entries, or all of fewer: each becomes RESTORING in a restore position with its
before-image written whole to its line on the reserved tags 44 to 47, here all free, and the others stay
in the job's retry set). RESUME with DISCARD frees every FAILED entry of such a stream, cuts the ties that
name them, whose tags stay poisoned, with the memory port otherwise as it was, moves the stream to CLOSED,
or to ABANDONED when a notice is owed, and is answered OK. Both are NOT_NOW for a stream in another state
or with a job (R3, R20, R21, R51, R52, R93, R96, R97, R98, R106, R121, R172). -/
def Obligations.ResumeHaltedStream : Prop :=
  (∀ (s : State) (n : StreamId), s.linkOpen → s.power.device = .ready →
      (∀ j : Job, s.noPassOwed → s.wc.hold = [] → (s.stream n).state = .halted →
        s.engine.queue = [j] → s.engine.lingerPending = [] → j.stream ≠ n → j.phase = .settle →
        j.kind = .epoch → 0 < (s.stream j.stream).inFlight →
        exec (.resumeRetry (BitVec.ofNat 8 n.val)) s = .next { s with
          engine := { s.engine with
            queue := [j, ⟨.retry, n, (s.stream n).epoch, .mgmt, .queued, [], 0, 0, false⟩] }
          mgmt := { s.mgmt with
            retryOut := s.mgmt.retryOut ++ [n], response := some ⟨.accepted, []⟩ } })
      ∧ (∀ es : List Entry, s.noPassOwed → s.wc.hold = [] → (s.stream n).state = .halted →
        s.engineIdle → s.restoresFree → s.journal.canonical → es ≠ [] →
        s.journal.newestFirst es (fun e => e.stream == n && e.isIn .failed) →
        (∀ e ∈ es, e.inFlight = 0) →
        let waiting := (s.journal.entries.filter fun e => (es.drop 4).contains e).map (·.index)
        exec (.resumeRetry (BitVec.ofNat 8 n.val)) s = .next (({ s with
          engine := { s.engine with
            queue := [⟨.retry, n, (s.stream n).epoch, .mgmt, .restore, waiting, 0, 0, false⟩] }
          mgmt := { s.mgmt with
            retryOut := s.mgmt.retryOut ++ [n], response := some ⟨.accepted, []⟩ } } : State).restoring
              (es.take 4)))
      ∧ ((s.stream n).state ≠ .halted ∨ (∃ j ∈ s.engine.queue, j.stream = n) →
        exec (.resumeRetry (BitVec.ofNat 8 n.val)) s = .next (s.respond .notNow [])
        ∧ exec (.resumeDiscard (BitVec.ofNat 8 n.val)) s = .next (s.respond .notNow [])))
  ∧ ∀ (s : State) (n : StreamId), s.linkOpen → s.power.device = .ready → s.noPassOwed →
    s.wc.hold = [] → s.journal.canonical → s.withinCeiling → (s.stream n).state = .halted →
    (∀ j ∈ s.engine.queue, j.stream ≠ n) →
    ∃ t, exec (.resumeDiscard (BitVec.ofNat 8 n.val)) s = .next t
      ∧ t.journal = { s.journal with entries := s.journal.entries.filter fun e =>
          !(e.stream == n && e.isIn .failed) }
      ∧ t.epochs = s.epochs.withStream n
          (if (s.stream n).noticeOwed then { s.stream n with state := .abandoned }
          else { s.stream n with state := .closed, age := .stopped 0, doomed := false })
      ∧ (∀ i : Fin 48, t.port.tags[i] = match s.port.tags[i] with
          | .poisoned (some x) =>
            if s.journal.entries.any fun e => e.index == x.entry && e.stream == n && e.isIn .failed then
              .poisoned none
            else .poisoned (some x)
          | y => y)
      ∧ { t.port with tags := s.port.tags } = s.port
      ∧ t.mgmt = { s.mgmt with response := some ⟨.ok, []⟩ }
      ∧ { t with journal := s.journal, epochs := s.epochs, port := s.port, mgmt := s.mgmt } = s

/-- The event queue holds records in the order raised; a record raised with fewer than 16 held joins the
young end, and with 16 held it is discarded and EVENTS_DROPPED set as well as its own flag. EVENT_NEXT
removes the oldest and answers OK with the number left and the record, or EMPTY. That a record's presence
byte has 0 in bits 7 to 4 is the model's choice (LOG 35). -/
def Obligations.EventQueueRecords : Prop :=
  (∀ (m : Mgmt) (e : EventRec),
    (m.events.length < 16 → m.record e =
      { m with flags := m.flags ||| e.kind.flag, events := m.events ++ [e] })
    ∧ (m.events.length = 16 → m.record e =
      { m with flags := m.flags ||| e.kind.flag ||| 0x0400#16 }))
  ∧ ∀ s : State, s.linkOpen →
    (∀ e rest, s.mgmt.events = e :: rest → exec .eventNext s = .next { s with mgmt := { s.mgmt with
      events := rest, response := some ⟨.ok, BitVec.ofNat 8 rest.length :: e.bytes⟩ } })
    ∧ (s.mgmt.events = [] → exec .eventNext s = .next (s.respond .empty []))

/-- R173: each event sets the flag of its kind, whatever the mask and whether or not its record finds
room, a flag set stays set, the unused positions read 0, and reading the queue clears none; FLAGS_CLEAR
clears the flags named in its mask, leaves the others, and is answered OK. -/
def Obligations.EventFlags : Prop :=
  (∀ (m : Mgmt) (e : EventRec), (m.record e).flags &&& e.kind.flag = e.kind.flag
    ∧ (m.record e).flags &&& m.flags = m.flags
    ∧ (m.flags &&& 0xF800#16 = 0#16 → (m.record e).flags &&& 0xF800#16 = 0#16))
  ∧ State.reset.mgmt.flags = 0#16
  ∧ ∀ (s : State), s.linkOpen →
    (∀ mask : BitVec 16, exec (.flagsClear mask) s = .next { s with mgmt := { s.mgmt with
      flags := s.mgmt.flags &&& ~~~mask, response := some ⟨.ok, []⟩ } })
    ∧ ∃ t, exec .eventNext s = .next t ∧ t.mgmt.flags = s.mgmt.flags

/-- R174: ALERT_MASK_SET replaces the alert mask with its five unused positions stored as 0 and is
answered OK; ALERT_N is low while a flag named in the mask is set, high otherwise, and not driven in
OFF, at every state and so at once with every change. -/
def Obligations.AlertMask : Prop :=
  (∀ (s : State) (mask : BitVec 16), s.linkOpen →
    exec (.alertMaskSet mask) s = .next { s with mgmt := { s.mgmt with
      mask := mask &&& 0x07FF#16, response := some ⟨.ok, []⟩ } })
  ∧ ∀ s : State, (s.power.device = .off → s.alertN = .notDriven)
    ∧ (s.power.device ≠ .off → s.mgmt.flags &&& s.mgmt.mask ≠ 0#16 → s.alertN = .low)
    ∧ (s.power.device ≠ .off → s.mgmt.flags &&& s.mgmt.mask = 0#16 → s.alertN = .high)

/-- Table 10-3: setting commands and ABORT are NOT_NOW in DRAIN and SPENT whatever their values, and
RESUME, CALIBRATE and RESTART are NOT_NOW outside READY; in OFF no command is taken (R165, R167 step 7,
R169). -/
def Obligations.CommandsNotTaken : Prop :=
  ∀ (s : State) (c : Instr),
    (c.isSetting = true → s.linkIdle → s.power.device = .drain ∨ s.power.device = .spent →
      exec c s = .next (s.respond .notNow []))
    ∧ (c.isReadyOnly = true → s.linkOpen → s.power.device ≠ .ready →
      exec c s = .next (s.respond .notNow []))
    ∧ (c.isManagement = true → s.power.device = .off → exec c s = .next s)
end

