-- ==== Sys2Proof/Laws/Journal.lean ====
section
/-! SUPPORT. The journal's canonical form (R1, R7): every operation on the list of working entries keeps
it, and an entry is found again as it was put there. -/

namespace Sys2Proof.Machine

/-! ### Indexes (R12) -/

/-- In a list of rising indexes that start at `k` or later, the lowest index left free from `k` on is
held by no entry. -/
theorem lowestFree_fresh {l : List Entry} {k : Nat}
    (hp : l.Pairwise (fun a b => a.index < b.index)) (hk : ∀ e ∈ l, k ≤ e.index) :
    ∀ e ∈ l, e.index ≠ lowestFree k l := by
  induction l generalizing k with
  | nil => simp
  | cons x xs ih =>
    rw [List.pairwise_cons] at hp
    intro e he
    by_cases hx : x.index = k
    · have hxs : ∀ e ∈ xs, k + 1 ≤ e.index := fun e he => by have := hp.1 e he; omega
      have hle : ∀ (l : List Entry) (k : Nat), k ≤ lowestFree k l := by
        intro l
        induction l with
        | nil => intro k; simp [lowestFree]
        | cons y ys ihy =>
          intro k
          simp only [lowestFree]
          split
          · exact Nat.le_trans (Nat.le_succ k) (ihy (k + 1))
          · exact Nat.le_refl k
      simp only [lowestFree, hx, if_true]
      rcases List.mem_cons.1 he with rfl | he
      · have := hle xs (k + 1); omega
      · exact ih hp.2 hxs e he
    · simp only [lowestFree, hx, if_false]
      rcases List.mem_cons.1 he with rfl | he'
      · exact hx
      · have h1 := hp.1 e he'
        have h2 := hk x (List.mem_cons_self)
        omega

/-- The lowest free index lies at most as far on as the list is long. -/
theorem lowestFree_le (l : List Entry) (k : Nat) : lowestFree k l ≤ k + l.length := by
  induction l generalizing k with
  | nil => simp [lowestFree]
  | cons x xs ih =>
    simp only [lowestFree, List.length_cons]
    split
    · have := ih (k + 1); omega
    · omega

/-! ### insertEntry -/

/-- The entries of the list after an insertion. -/
theorem mem_insertEntry {e x : Entry} {l : List Entry} : x ∈ insertEntry e l ↔ x = e ∨ x ∈ l := by
  induction l with
  | nil => simp [insertEntry]
  | cons y ys ih =>
    simp only [insertEntry]
    split
    · simp
    · simp only [List.mem_cons, ih]; tauto

/-- An insertion adds one entry. -/
@[simp] theorem length_insertEntry (e : Entry) (l : List Entry) :
    (insertEntry e l).length = l.length + 1 := by
  induction l with
  | nil => simp [insertEntry]
  | cons y ys ih =>
    simp only [insertEntry]
    split
    · simp
    · simp [ih]

/-- An insertion of a fresh index keeps the indexes rising. -/
theorem insertEntry_indexes {e : Entry} {l : List Entry}
    (hp : l.Pairwise (fun a b => a.index < b.index)) (hf : ∀ x ∈ l, x.index ≠ e.index) :
    (insertEntry e l).Pairwise (fun a b => a.index < b.index) := by
  induction l with
  | nil => simp [insertEntry]
  | cons y ys ih =>
    rw [List.pairwise_cons] at hp
    simp only [insertEntry]
    split
    · rename_i h
      refine List.pairwise_cons.2 ⟨?_, List.pairwise_cons.2 hp⟩
      intro z hz
      rcases List.mem_cons.1 hz with rfl | hz
      · exact h
      · exact Nat.lt_trans h (hp.1 z hz)
    · rename_i h
      have hy := hf y List.mem_cons_self
      refine List.pairwise_cons.2 ⟨?_, ih hp.2 fun x hx => hf x (List.mem_cons_of_mem y hx)⟩
      intro z hz
      rcases mem_insertEntry.1 hz with rfl | hz
      · omega
      · exact hp.1 z hz

/-- An insertion of a fresh line keeps the lines distinct. -/
theorem insertEntry_lines {e : Entry} {l : List Entry}
    (hp : l.Pairwise (fun a b => a.line ≠ b.line)) (hf : ∀ x ∈ l, x.line ≠ e.line) :
    (insertEntry e l).Pairwise (fun a b => a.line ≠ b.line) := by
  induction l with
  | nil => simp [insertEntry]
  | cons y ys ih =>
    rw [List.pairwise_cons] at hp
    simp only [insertEntry]
    split
    · refine List.pairwise_cons.2 ⟨?_, List.pairwise_cons.2 hp⟩
      intro z hz
      exact (hf z hz).symm
    · refine List.pairwise_cons.2 ⟨?_, ih hp.2 fun x hx => hf x (List.mem_cons_of_mem y hx)⟩
      intro z hz
      rcases mem_insertEntry.1 hz with rfl | hz
      · exact hf y List.mem_cons_self
      · exact hp.1 z hz

/-! ### The canonical form is kept -/

/-- A line the index does not hold is the line of no working entry (R7). -/
theorem atLine?_none {j : Journal} {l : LineAddr} (h : j.atLine? l = none) :
    ∀ e ∈ j.entries, e.line ≠ l := by
  intro e he hl
  have := List.find?_eq_none.1 h e he
  simp [hl] at this

/-- A granted admission keeps the canonical form (R11, R12). -/
theorem Journal.canonical_create {j : Journal} {e : Entry} {c : BitVec 32} (h : j.canonical)
    (hi : e.index = lowestFree 0 j.entries) (hn : j.entries.length < journalSize)
    (hl : j.atLine? e.line = none) : (Journal.mk (insertEntry e j.entries) c).canonical := by
  obtain ⟨h1, h2, h3⟩ := h
  have hfresh := lowestFree_fresh (k := 0) h1 fun e _ => Nat.zero_le e.index
  refine ⟨insertEntry_indexes h1 fun x hx => hi ▸ hfresh x hx, ?_,
    insertEntry_lines h3 (atLine?_none hl)⟩
  intro x hx
  rcases mem_insertEntry.1 hx with rfl | hx
  · have := lowestFree_le j.entries 0; omega
  · exact h2 x hx

/-- A change of an entry that keeps its index and line keeps the canonical form. -/
theorem Journal.canonical_updEntry {j : Journal} {i : Nat} {f : Entry → Entry} (h : j.canonical)
    (hf : ∀ e, (f e).index = e.index ∧ (f e).line = e.line) : (j.updEntry i f).canonical := by
  obtain ⟨h1, h2, h3⟩ := h
  have hi : ∀ e : Entry, (if e.index == i then f e else e).index = e.index := by
    intro e; split
    · exact (hf e).1
    · rfl
  have hl : ∀ e : Entry, (if e.index == i then f e else e).line = e.line := by
    intro e; split
    · exact (hf e).2
    · rfl
  refine ⟨?_, ?_, ?_⟩
  · simpa only [Journal.updEntry, List.pairwise_map, hi] using h1
  · simp only [Journal.updEntry, List.mem_map]
    rintro e ⟨x, hx, rfl⟩
    rw [hi]; exact h2 x hx
  · simpa only [Journal.updEntry, List.pairwise_map, hl] using h3

/-- A freeing keeps the canonical form (R21). -/
theorem Journal.canonical_removeEntry {j : Journal} (i : Nat) (h : j.canonical) :
    (j.removeEntry i).canonical :=
  ⟨h.1.filter _, fun e he => h.2.1 e (List.mem_filter.1 he).1, h.2.2.filter _⟩

/-- The cleared journal is canonical (R22). -/
theorem Journal.canonical_cleared : Journal.cleared.canonical := by decide

/-- The journal after reset is canonical. -/
theorem State.reset_journal_canonical : State.reset.journal.canonical := by decide

/-! ### Finding entries again -/

/-- In a canonical journal the entry found under an index has that index. -/
theorem entry?_index {j : Journal} {i : Nat} {e : Entry} (h : j.entry? i = some e) : e.index = i := by
  have := List.find?_some h
  simpa using this

/-- A freed index is found no more (R21). -/
@[simp] theorem entry?_removeEntry_same (i : Nat) (j : Journal) : (j.removeEntry i).entry? i = none := by
  simp only [Journal.entry?, Journal.removeEntry, List.find?_eq_none, List.mem_filter]
  rintro e ⟨_, h⟩
  simpa using h

/-- A freeing leaves every other index as it was. -/
theorem entry?_removeEntry_ne {i k : Nat} (h : k ≠ i) (j : Journal) :
    (j.removeEntry i).entry? k = j.entry? k := by
  simp only [Journal.entry?, Journal.removeEntry, List.find?_filter]
  congr 1
  funext e
  by_cases he : e.index = k
  · simp [he, h]
  · simp [he]

/-- A change of an entry is found under its index, when it keeps the index. -/
theorem entry?_updEntry_same {i : Nat} {f : Entry → Entry} (hf : ∀ e, (f e).index = e.index)
    (j : Journal) : (j.updEntry i f).entry? i = (j.entry? i).map f := by
  obtain ⟨l, c⟩ := j
  simp only [Journal.entry?, Journal.updEntry]
  induction l with
  | nil => rfl
  | cons x xs ih =>
    by_cases hx : x.index = i
    · simp [hx, hf]
    · simpa [hx] using ih

/-- A change of an entry leaves every other index as it was. -/
theorem entry?_updEntry_ne {i k : Nat} (h : k ≠ i) {f : Entry → Entry}
    (hf : ∀ e, (f e).index = e.index) (j : Journal) : (j.updEntry i f).entry? k = j.entry? k := by
  obtain ⟨l, c⟩ := j
  simp only [Journal.entry?, Journal.updEntry]
  induction l with
  | nil => rfl
  | cons x xs ih =>
    by_cases hx : x.index = i
    · have hk : i ≠ k := fun he => h he.symm
      simpa [hx, hf, hk] using ih
    · by_cases hk : x.index = k
      · subst hk
        simp [h]
      · simpa [hx, hk] using ih

end Sys2Proof.Machine
end

