-- ==== Sys2Proof/Laws/State.lean ====
section
/-! SUPPORT. One lemma per field for each primitive update of the state, all true by rfl, so that no
later proof unfolds a record update. -/

namespace Sys2Proof.Machine

/-! ### State.raise -/

@[simp] theorem State.raise_pending (e : EventRec) (s : State) :
    (s.raise e).pending = s.pending := rfl
@[simp] theorem State.raise_now (e : EventRec) (s : State) : (s.raise e).now = s.now := rfl
@[simp] theorem State.raise_initTime (e : EventRec) (s : State) :
    (s.raise e).initTime = s.initTime := rfl
@[simp] theorem State.raise_freeCount (e : EventRec) (s : State) :
    (s.raise e).freeCount = s.freeCount := rfl
@[simp] theorem State.raise_pins (e : EventRec) (s : State) : (s.raise e).pins = s.pins := rfl
@[simp] theorem State.raise_bus (e : EventRec) (s : State) : (s.raise e).bus = s.bus := rfl
@[simp] theorem State.raise_host (e : EventRec) (s : State) : (s.raise e).host = s.host := rfl
@[simp] theorem State.raise_cls (e : EventRec) (s : State) : (s.raise e).cls = s.cls := rfl
@[simp] theorem State.raise_journal (e : EventRec) (s : State) :
    (s.raise e).journal = s.journal := rfl
@[simp] theorem State.raise_epochs (e : EventRec) (s : State) : (s.raise e).epochs = s.epochs := rfl
@[simp] theorem State.raise_wc (e : EventRec) (s : State) : (s.raise e).wc = s.wc := rfl
@[simp] theorem State.raise_engine (e : EventRec) (s : State) : (s.raise e).engine = s.engine := rfl
@[simp] theorem State.raise_port (e : EventRec) (s : State) : (s.raise e).port = s.port := rfl
@[simp] theorem State.raise_meter (e : EventRec) (s : State) : (s.raise e).meter = s.meter := rfl
@[simp] theorem State.raise_power (e : EventRec) (s : State) : (s.raise e).power = s.power := rfl
@[simp] theorem State.raise_store (e : EventRec) (s : State) : (s.raise e).store = s.store := rfl
@[simp] theorem State.raise_mgmt (e : EventRec) (s : State) :
    (s.raise e).mgmt = s.mgmt.record e := rfl

/-! ### State.advanceTo -/

@[simp] theorem State.advanceTo_pending (t : Nat) (s : State) :
    (s.advanceTo t).pending = s.pending := rfl
@[simp] theorem State.advanceTo_initTime (t : Nat) (s : State) :
    (s.advanceTo t).initTime = s.initTime := rfl
@[simp] theorem State.advanceTo_freeCount (t : Nat) (s : State) :
    (s.advanceTo t).freeCount = s.freeCount := rfl
@[simp] theorem State.advanceTo_pins (t : Nat) (s : State) : (s.advanceTo t).pins = s.pins := rfl
@[simp] theorem State.advanceTo_bus (t : Nat) (s : State) : (s.advanceTo t).bus = s.bus := rfl
@[simp] theorem State.advanceTo_host (t : Nat) (s : State) : (s.advanceTo t).host = s.host := rfl
@[simp] theorem State.advanceTo_cls (t : Nat) (s : State) : (s.advanceTo t).cls = s.cls := rfl
@[simp] theorem State.advanceTo_journal (t : Nat) (s : State) :
    (s.advanceTo t).journal = s.journal := rfl
@[simp] theorem State.advanceTo_epochs (t : Nat) (s : State) :
    (s.advanceTo t).epochs = s.epochs := rfl
@[simp] theorem State.advanceTo_wc (t : Nat) (s : State) : (s.advanceTo t).wc = s.wc := rfl
@[simp] theorem State.advanceTo_engine (t : Nat) (s : State) :
    (s.advanceTo t).engine = s.engine := rfl
@[simp] theorem State.advanceTo_port (t : Nat) (s : State) : (s.advanceTo t).port = s.port := rfl
@[simp] theorem State.advanceTo_meter (t : Nat) (s : State) : (s.advanceTo t).meter = s.meter := rfl
@[simp] theorem State.advanceTo_power (t : Nat) (s : State) : (s.advanceTo t).power = s.power := rfl
@[simp] theorem State.advanceTo_store (t : Nat) (s : State) : (s.advanceTo t).store = s.store := rfl
@[simp] theorem State.advanceTo_mgmt (t : Nat) (s : State) : (s.advanceTo t).mgmt = s.mgmt := rfl
@[simp] theorem State.advanceTo_now (t : Nat) (s : State) :
    (s.advanceTo t).now = max s.now t := rfl

/-! ### State.setStream -/

@[simp] theorem State.setStream_pending (n : StreamId) (r : Stream) (s : State) :
    (s.setStream n r).pending = s.pending := rfl
@[simp] theorem State.setStream_now (n : StreamId) (r : Stream) (s : State) :
    (s.setStream n r).now = s.now := rfl
@[simp] theorem State.setStream_initTime (n : StreamId) (r : Stream) (s : State) :
    (s.setStream n r).initTime = s.initTime := rfl
@[simp] theorem State.setStream_freeCount (n : StreamId) (r : Stream) (s : State) :
    (s.setStream n r).freeCount = s.freeCount := rfl
@[simp] theorem State.setStream_pins (n : StreamId) (r : Stream) (s : State) :
    (s.setStream n r).pins = s.pins := rfl
@[simp] theorem State.setStream_bus (n : StreamId) (r : Stream) (s : State) :
    (s.setStream n r).bus = s.bus := rfl
@[simp] theorem State.setStream_host (n : StreamId) (r : Stream) (s : State) :
    (s.setStream n r).host = s.host := rfl
@[simp] theorem State.setStream_cls (n : StreamId) (r : Stream) (s : State) :
    (s.setStream n r).cls = s.cls := rfl
@[simp] theorem State.setStream_journal (n : StreamId) (r : Stream) (s : State) :
    (s.setStream n r).journal = s.journal := rfl
@[simp] theorem State.setStream_wc (n : StreamId) (r : Stream) (s : State) :
    (s.setStream n r).wc = s.wc := rfl
@[simp] theorem State.setStream_engine (n : StreamId) (r : Stream) (s : State) :
    (s.setStream n r).engine = s.engine := rfl
@[simp] theorem State.setStream_port (n : StreamId) (r : Stream) (s : State) :
    (s.setStream n r).port = s.port := rfl
@[simp] theorem State.setStream_meter (n : StreamId) (r : Stream) (s : State) :
    (s.setStream n r).meter = s.meter := rfl
@[simp] theorem State.setStream_power (n : StreamId) (r : Stream) (s : State) :
    (s.setStream n r).power = s.power := rfl
@[simp] theorem State.setStream_store (n : StreamId) (r : Stream) (s : State) :
    (s.setStream n r).store = s.store := rfl
@[simp] theorem State.setStream_mgmt (n : StreamId) (r : Stream) (s : State) :
    (s.setStream n r).mgmt = s.mgmt := rfl
@[simp] theorem State.setStream_epochs (n : StreamId) (r : Stream) (s : State) :
    (s.setStream n r).epochs = { s.epochs with streams := s.epochs.streams.set n r } := rfl

/-! ### State.updStream -/

@[simp] theorem State.updStream_pending (n : StreamId) (f : Stream → Stream) (s : State) :
    (s.updStream n f).pending = s.pending := rfl
@[simp] theorem State.updStream_now (n : StreamId) (f : Stream → Stream) (s : State) :
    (s.updStream n f).now = s.now := rfl
@[simp] theorem State.updStream_initTime (n : StreamId) (f : Stream → Stream) (s : State) :
    (s.updStream n f).initTime = s.initTime := rfl
@[simp] theorem State.updStream_freeCount (n : StreamId) (f : Stream → Stream) (s : State) :
    (s.updStream n f).freeCount = s.freeCount := rfl
@[simp] theorem State.updStream_pins (n : StreamId) (f : Stream → Stream) (s : State) :
    (s.updStream n f).pins = s.pins := rfl
@[simp] theorem State.updStream_bus (n : StreamId) (f : Stream → Stream) (s : State) :
    (s.updStream n f).bus = s.bus := rfl
@[simp] theorem State.updStream_host (n : StreamId) (f : Stream → Stream) (s : State) :
    (s.updStream n f).host = s.host := rfl
@[simp] theorem State.updStream_cls (n : StreamId) (f : Stream → Stream) (s : State) :
    (s.updStream n f).cls = s.cls := rfl
@[simp] theorem State.updStream_journal (n : StreamId) (f : Stream → Stream) (s : State) :
    (s.updStream n f).journal = s.journal := rfl
@[simp] theorem State.updStream_wc (n : StreamId) (f : Stream → Stream) (s : State) :
    (s.updStream n f).wc = s.wc := rfl
@[simp] theorem State.updStream_engine (n : StreamId) (f : Stream → Stream) (s : State) :
    (s.updStream n f).engine = s.engine := rfl
@[simp] theorem State.updStream_port (n : StreamId) (f : Stream → Stream) (s : State) :
    (s.updStream n f).port = s.port := rfl
@[simp] theorem State.updStream_meter (n : StreamId) (f : Stream → Stream) (s : State) :
    (s.updStream n f).meter = s.meter := rfl
@[simp] theorem State.updStream_power (n : StreamId) (f : Stream → Stream) (s : State) :
    (s.updStream n f).power = s.power := rfl
@[simp] theorem State.updStream_store (n : StreamId) (f : Stream → Stream) (s : State) :
    (s.updStream n f).store = s.store := rfl
@[simp] theorem State.updStream_mgmt (n : StreamId) (f : Stream → Stream) (s : State) :
    (s.updStream n f).mgmt = s.mgmt := rfl
@[simp] theorem State.updStream_epochs (n : StreamId) (f : Stream → Stream) (s : State) :
    (s.updStream n f).epochs =
      { s.epochs with streams := s.epochs.streams.set n (f (s.stream n)) } := rfl

/-! ### State.doom -/

@[simp] theorem State.doom_pending (n : StreamId) (s : State) :
    (s.doom n).pending = s.pending := rfl
@[simp] theorem State.doom_now (n : StreamId) (s : State) : (s.doom n).now = s.now := rfl
@[simp] theorem State.doom_initTime (n : StreamId) (s : State) :
    (s.doom n).initTime = s.initTime := rfl
@[simp] theorem State.doom_freeCount (n : StreamId) (s : State) :
    (s.doom n).freeCount = s.freeCount := rfl
@[simp] theorem State.doom_pins (n : StreamId) (s : State) : (s.doom n).pins = s.pins := rfl
@[simp] theorem State.doom_bus (n : StreamId) (s : State) : (s.doom n).bus = s.bus := rfl
@[simp] theorem State.doom_host (n : StreamId) (s : State) : (s.doom n).host = s.host := rfl
@[simp] theorem State.doom_cls (n : StreamId) (s : State) : (s.doom n).cls = s.cls := rfl
@[simp] theorem State.doom_journal (n : StreamId) (s : State) :
    (s.doom n).journal = s.journal := rfl
@[simp] theorem State.doom_wc (n : StreamId) (s : State) : (s.doom n).wc = s.wc := rfl
@[simp] theorem State.doom_engine (n : StreamId) (s : State) : (s.doom n).engine = s.engine := rfl
@[simp] theorem State.doom_port (n : StreamId) (s : State) : (s.doom n).port = s.port := rfl
@[simp] theorem State.doom_meter (n : StreamId) (s : State) : (s.doom n).meter = s.meter := rfl
@[simp] theorem State.doom_power (n : StreamId) (s : State) : (s.doom n).power = s.power := rfl
@[simp] theorem State.doom_store (n : StreamId) (s : State) : (s.doom n).store = s.store := rfl
@[simp] theorem State.doom_mgmt (n : StreamId) (s : State) : (s.doom n).mgmt = s.mgmt := rfl
@[simp] theorem State.doom_epochs (n : StreamId) (s : State) :
    (s.doom n).epochs =
      { s.epochs with streams := s.epochs.streams.set n { s.stream n with doomed := true } } := rfl

/-! ### State.answerWrite -/

@[simp] theorem State.answerWrite_pending (p : Pair) (st : WriteStatus) (s : State) :
    (s.answerWrite p st).pending = s.pending := rfl
@[simp] theorem State.answerWrite_now (p : Pair) (st : WriteStatus) (s : State) :
    (s.answerWrite p st).now = s.now := rfl
@[simp] theorem State.answerWrite_initTime (p : Pair) (st : WriteStatus) (s : State) :
    (s.answerWrite p st).initTime = s.initTime := rfl
@[simp] theorem State.answerWrite_freeCount (p : Pair) (st : WriteStatus) (s : State) :
    (s.answerWrite p st).freeCount = s.freeCount := rfl
@[simp] theorem State.answerWrite_pins (p : Pair) (st : WriteStatus) (s : State) :
    (s.answerWrite p st).pins = s.pins := rfl
@[simp] theorem State.answerWrite_bus (p : Pair) (st : WriteStatus) (s : State) :
    (s.answerWrite p st).bus = s.bus := rfl
@[simp] theorem State.answerWrite_cls (p : Pair) (st : WriteStatus) (s : State) :
    (s.answerWrite p st).cls = s.cls := rfl
@[simp] theorem State.answerWrite_journal (p : Pair) (st : WriteStatus) (s : State) :
    (s.answerWrite p st).journal = s.journal := rfl
@[simp] theorem State.answerWrite_epochs (p : Pair) (st : WriteStatus) (s : State) :
    (s.answerWrite p st).epochs = s.epochs := rfl
@[simp] theorem State.answerWrite_wc (p : Pair) (st : WriteStatus) (s : State) :
    (s.answerWrite p st).wc = s.wc := rfl
@[simp] theorem State.answerWrite_engine (p : Pair) (st : WriteStatus) (s : State) :
    (s.answerWrite p st).engine = s.engine := rfl
@[simp] theorem State.answerWrite_port (p : Pair) (st : WriteStatus) (s : State) :
    (s.answerWrite p st).port = s.port := rfl
@[simp] theorem State.answerWrite_meter (p : Pair) (st : WriteStatus) (s : State) :
    (s.answerWrite p st).meter = s.meter := rfl
@[simp] theorem State.answerWrite_power (p : Pair) (st : WriteStatus) (s : State) :
    (s.answerWrite p st).power = s.power := rfl
@[simp] theorem State.answerWrite_store (p : Pair) (st : WriteStatus) (s : State) :
    (s.answerWrite p st).store = s.store := rfl
@[simp] theorem State.answerWrite_mgmt (p : Pair) (st : WriteStatus) (s : State) :
    (s.answerWrite p st).mgmt = s.mgmt := rfl
@[simp] theorem State.answerWrite_host (p : Pair) (st : WriteStatus) (s : State) :
    (s.answerWrite p st).host = s.host.answerWrite p st := rfl

/-! ### State.answerRead -/

@[simp] theorem State.answerRead_pending (p : Pair) (st : ReadStatus) (d : Block) (s : State) :
    (s.answerRead p st d).pending = s.pending := rfl
@[simp] theorem State.answerRead_now (p : Pair) (st : ReadStatus) (d : Block) (s : State) :
    (s.answerRead p st d).now = s.now := rfl
@[simp] theorem State.answerRead_initTime (p : Pair) (st : ReadStatus) (d : Block) (s : State) :
    (s.answerRead p st d).initTime = s.initTime := rfl
@[simp] theorem State.answerRead_freeCount (p : Pair) (st : ReadStatus) (d : Block) (s : State) :
    (s.answerRead p st d).freeCount = s.freeCount := rfl
@[simp] theorem State.answerRead_pins (p : Pair) (st : ReadStatus) (d : Block) (s : State) :
    (s.answerRead p st d).pins = s.pins := rfl
@[simp] theorem State.answerRead_bus (p : Pair) (st : ReadStatus) (d : Block) (s : State) :
    (s.answerRead p st d).bus = s.bus := rfl
@[simp] theorem State.answerRead_cls (p : Pair) (st : ReadStatus) (d : Block) (s : State) :
    (s.answerRead p st d).cls = s.cls := rfl
@[simp] theorem State.answerRead_journal (p : Pair) (st : ReadStatus) (d : Block) (s : State) :
    (s.answerRead p st d).journal = s.journal := rfl
@[simp] theorem State.answerRead_epochs (p : Pair) (st : ReadStatus) (d : Block) (s : State) :
    (s.answerRead p st d).epochs = s.epochs := rfl
@[simp] theorem State.answerRead_wc (p : Pair) (st : ReadStatus) (d : Block) (s : State) :
    (s.answerRead p st d).wc = s.wc := rfl
@[simp] theorem State.answerRead_engine (p : Pair) (st : ReadStatus) (d : Block) (s : State) :
    (s.answerRead p st d).engine = s.engine := rfl
@[simp] theorem State.answerRead_port (p : Pair) (st : ReadStatus) (d : Block) (s : State) :
    (s.answerRead p st d).port = s.port := rfl
@[simp] theorem State.answerRead_meter (p : Pair) (st : ReadStatus) (d : Block) (s : State) :
    (s.answerRead p st d).meter = s.meter := rfl
@[simp] theorem State.answerRead_power (p : Pair) (st : ReadStatus) (d : Block) (s : State) :
    (s.answerRead p st d).power = s.power := rfl
@[simp] theorem State.answerRead_store (p : Pair) (st : ReadStatus) (d : Block) (s : State) :
    (s.answerRead p st d).store = s.store := rfl
@[simp] theorem State.answerRead_mgmt (p : Pair) (st : ReadStatus) (d : Block) (s : State) :
    (s.answerRead p st d).mgmt = s.mgmt := rfl
@[simp] theorem State.answerRead_host (p : Pair) (st : ReadStatus) (d : Block) (s : State) :
    (s.answerRead p st d).host = s.host.answerRead p st d := rfl

/-! ### State.updEntry -/

@[simp] theorem State.updEntry_pending (i : Nat) (f : Entry → Entry) (s : State) :
    (s.updEntry i f).pending = s.pending := rfl
@[simp] theorem State.updEntry_now (i : Nat) (f : Entry → Entry) (s : State) :
    (s.updEntry i f).now = s.now := rfl
@[simp] theorem State.updEntry_initTime (i : Nat) (f : Entry → Entry) (s : State) :
    (s.updEntry i f).initTime = s.initTime := rfl
@[simp] theorem State.updEntry_freeCount (i : Nat) (f : Entry → Entry) (s : State) :
    (s.updEntry i f).freeCount = s.freeCount := rfl
@[simp] theorem State.updEntry_pins (i : Nat) (f : Entry → Entry) (s : State) :
    (s.updEntry i f).pins = s.pins := rfl
@[simp] theorem State.updEntry_bus (i : Nat) (f : Entry → Entry) (s : State) :
    (s.updEntry i f).bus = s.bus := rfl
@[simp] theorem State.updEntry_host (i : Nat) (f : Entry → Entry) (s : State) :
    (s.updEntry i f).host = s.host := rfl
@[simp] theorem State.updEntry_cls (i : Nat) (f : Entry → Entry) (s : State) :
    (s.updEntry i f).cls = s.cls := rfl
@[simp] theorem State.updEntry_epochs (i : Nat) (f : Entry → Entry) (s : State) :
    (s.updEntry i f).epochs = s.epochs := rfl
@[simp] theorem State.updEntry_wc (i : Nat) (f : Entry → Entry) (s : State) :
    (s.updEntry i f).wc = s.wc := rfl
@[simp] theorem State.updEntry_engine (i : Nat) (f : Entry → Entry) (s : State) :
    (s.updEntry i f).engine = s.engine := rfl
@[simp] theorem State.updEntry_port (i : Nat) (f : Entry → Entry) (s : State) :
    (s.updEntry i f).port = s.port := rfl
@[simp] theorem State.updEntry_meter (i : Nat) (f : Entry → Entry) (s : State) :
    (s.updEntry i f).meter = s.meter := rfl
@[simp] theorem State.updEntry_power (i : Nat) (f : Entry → Entry) (s : State) :
    (s.updEntry i f).power = s.power := rfl
@[simp] theorem State.updEntry_store (i : Nat) (f : Entry → Entry) (s : State) :
    (s.updEntry i f).store = s.store := rfl
@[simp] theorem State.updEntry_mgmt (i : Nat) (f : Entry → Entry) (s : State) :
    (s.updEntry i f).mgmt = s.mgmt := rfl
@[simp] theorem State.updEntry_journal (i : Nat) (f : Entry → Entry) (s : State) :
    (s.updEntry i f).journal = s.journal.updEntry i f := rfl

/-! ### State.owePass -/

@[simp] theorem State.owePass_pending (s : State) : (s.owePass).pending = s.pending := rfl
@[simp] theorem State.owePass_now (s : State) : (s.owePass).now = s.now := rfl
@[simp] theorem State.owePass_initTime (s : State) : (s.owePass).initTime = s.initTime := rfl
@[simp] theorem State.owePass_freeCount (s : State) : (s.owePass).freeCount = s.freeCount := rfl
@[simp] theorem State.owePass_pins (s : State) : (s.owePass).pins = s.pins := rfl
@[simp] theorem State.owePass_bus (s : State) : (s.owePass).bus = s.bus := rfl
@[simp] theorem State.owePass_host (s : State) : (s.owePass).host = s.host := rfl
@[simp] theorem State.owePass_cls (s : State) : (s.owePass).cls = s.cls := rfl
@[simp] theorem State.owePass_journal (s : State) : (s.owePass).journal = s.journal := rfl
@[simp] theorem State.owePass_epochs (s : State) : (s.owePass).epochs = s.epochs := rfl
@[simp] theorem State.owePass_engine (s : State) : (s.owePass).engine = s.engine := rfl
@[simp] theorem State.owePass_port (s : State) : (s.owePass).port = s.port := rfl
@[simp] theorem State.owePass_meter (s : State) : (s.owePass).meter = s.meter := rfl
@[simp] theorem State.owePass_power (s : State) : (s.owePass).power = s.power := rfl
@[simp] theorem State.owePass_store (s : State) : (s.owePass).store = s.store := rfl
@[simp] theorem State.owePass_mgmt (s : State) : (s.owePass).mgmt = s.mgmt := rfl
@[simp] theorem State.owePass_wc (s : State) :
    (s.owePass).wc = { s.wc with passDue := true } := rfl

/-! ### State.removeHeld -/

@[simp] theorem State.removeHeld_pending (p : Pair) (s : State) :
    (s.removeHeld p).pending = s.pending := rfl
@[simp] theorem State.removeHeld_now (p : Pair) (s : State) : (s.removeHeld p).now = s.now := rfl
@[simp] theorem State.removeHeld_initTime (p : Pair) (s : State) :
    (s.removeHeld p).initTime = s.initTime := rfl
@[simp] theorem State.removeHeld_freeCount (p : Pair) (s : State) :
    (s.removeHeld p).freeCount = s.freeCount := rfl
@[simp] theorem State.removeHeld_pins (p : Pair) (s : State) : (s.removeHeld p).pins = s.pins := rfl
@[simp] theorem State.removeHeld_bus (p : Pair) (s : State) : (s.removeHeld p).bus = s.bus := rfl
@[simp] theorem State.removeHeld_host (p : Pair) (s : State) : (s.removeHeld p).host = s.host := rfl
@[simp] theorem State.removeHeld_cls (p : Pair) (s : State) : (s.removeHeld p).cls = s.cls := rfl
@[simp] theorem State.removeHeld_journal (p : Pair) (s : State) :
    (s.removeHeld p).journal = s.journal := rfl
@[simp] theorem State.removeHeld_epochs (p : Pair) (s : State) :
    (s.removeHeld p).epochs = s.epochs := rfl
@[simp] theorem State.removeHeld_engine (p : Pair) (s : State) :
    (s.removeHeld p).engine = s.engine := rfl
@[simp] theorem State.removeHeld_port (p : Pair) (s : State) : (s.removeHeld p).port = s.port := rfl
@[simp] theorem State.removeHeld_meter (p : Pair) (s : State) :
    (s.removeHeld p).meter = s.meter := rfl
@[simp] theorem State.removeHeld_power (p : Pair) (s : State) :
    (s.removeHeld p).power = s.power := rfl
@[simp] theorem State.removeHeld_store (p : Pair) (s : State) :
    (s.removeHeld p).store = s.store := rfl
@[simp] theorem State.removeHeld_mgmt (p : Pair) (s : State) : (s.removeHeld p).mgmt = s.mgmt := rfl
@[simp] theorem State.removeHeld_wc (p : Pair) (s : State) :
    (s.removeHeld p).wc = { s.wc with hold := s.wc.hold.filter (·.pair != p) } := rfl

/-! ### State.enqueueJob -/

@[simp] theorem State.enqueueJob_pending (k : JobKind) (n : StreamId) (c : RollCause) (s : State) :
    (s.enqueueJob k n c).pending = s.pending := rfl
@[simp] theorem State.enqueueJob_now (k : JobKind) (n : StreamId) (c : RollCause) (s : State) :
    (s.enqueueJob k n c).now = s.now := rfl
@[simp] theorem State.enqueueJob_initTime (k : JobKind) (n : StreamId) (c : RollCause) (s : State) :
    (s.enqueueJob k n c).initTime = s.initTime := rfl
@[simp] theorem State.enqueueJob_freeCount (k : JobKind) (n : StreamId) (c : RollCause) (s : State) :
    (s.enqueueJob k n c).freeCount = s.freeCount := rfl
@[simp] theorem State.enqueueJob_pins (k : JobKind) (n : StreamId) (c : RollCause) (s : State) :
    (s.enqueueJob k n c).pins = s.pins := rfl
@[simp] theorem State.enqueueJob_bus (k : JobKind) (n : StreamId) (c : RollCause) (s : State) :
    (s.enqueueJob k n c).bus = s.bus := rfl
@[simp] theorem State.enqueueJob_host (k : JobKind) (n : StreamId) (c : RollCause) (s : State) :
    (s.enqueueJob k n c).host = s.host := rfl
@[simp] theorem State.enqueueJob_cls (k : JobKind) (n : StreamId) (c : RollCause) (s : State) :
    (s.enqueueJob k n c).cls = s.cls := rfl
@[simp] theorem State.enqueueJob_journal (k : JobKind) (n : StreamId) (c : RollCause) (s : State) :
    (s.enqueueJob k n c).journal = s.journal := rfl
@[simp] theorem State.enqueueJob_epochs (k : JobKind) (n : StreamId) (c : RollCause) (s : State) :
    (s.enqueueJob k n c).epochs = s.epochs := rfl
@[simp] theorem State.enqueueJob_wc (k : JobKind) (n : StreamId) (c : RollCause) (s : State) :
    (s.enqueueJob k n c).wc = s.wc := rfl
@[simp] theorem State.enqueueJob_port (k : JobKind) (n : StreamId) (c : RollCause) (s : State) :
    (s.enqueueJob k n c).port = s.port := rfl
@[simp] theorem State.enqueueJob_meter (k : JobKind) (n : StreamId) (c : RollCause) (s : State) :
    (s.enqueueJob k n c).meter = s.meter := rfl
@[simp] theorem State.enqueueJob_power (k : JobKind) (n : StreamId) (c : RollCause) (s : State) :
    (s.enqueueJob k n c).power = s.power := rfl
@[simp] theorem State.enqueueJob_store (k : JobKind) (n : StreamId) (c : RollCause) (s : State) :
    (s.enqueueJob k n c).store = s.store := rfl
@[simp] theorem State.enqueueJob_mgmt (k : JobKind) (n : StreamId) (c : RollCause) (s : State) :
    (s.enqueueJob k n c).mgmt = s.mgmt := rfl
@[simp] theorem State.enqueueJob_engine (k : JobKind) (n : StreamId) (c : RollCause) (s : State) :
    (s.enqueueJob k n c).engine =
      { s.engine with queue := s.engine.queue ++ [s.newJob k n c] } := rfl

/-! ### State.setTag -/

@[simp] theorem State.setTag_pending (t : Nat) (x : Tag) (s : State) :
    (s.setTag t x).pending = s.pending := rfl
@[simp] theorem State.setTag_now (t : Nat) (x : Tag) (s : State) : (s.setTag t x).now = s.now := rfl
@[simp] theorem State.setTag_initTime (t : Nat) (x : Tag) (s : State) :
    (s.setTag t x).initTime = s.initTime := rfl
@[simp] theorem State.setTag_freeCount (t : Nat) (x : Tag) (s : State) :
    (s.setTag t x).freeCount = s.freeCount := rfl
@[simp] theorem State.setTag_pins (t : Nat) (x : Tag) (s : State) :
    (s.setTag t x).pins = s.pins := rfl
@[simp] theorem State.setTag_bus (t : Nat) (x : Tag) (s : State) : (s.setTag t x).bus = s.bus := rfl
@[simp] theorem State.setTag_host (t : Nat) (x : Tag) (s : State) :
    (s.setTag t x).host = s.host := rfl
@[simp] theorem State.setTag_cls (t : Nat) (x : Tag) (s : State) : (s.setTag t x).cls = s.cls := rfl
@[simp] theorem State.setTag_journal (t : Nat) (x : Tag) (s : State) :
    (s.setTag t x).journal = s.journal := rfl
@[simp] theorem State.setTag_epochs (t : Nat) (x : Tag) (s : State) :
    (s.setTag t x).epochs = s.epochs := rfl
@[simp] theorem State.setTag_wc (t : Nat) (x : Tag) (s : State) : (s.setTag t x).wc = s.wc := rfl
@[simp] theorem State.setTag_engine (t : Nat) (x : Tag) (s : State) :
    (s.setTag t x).engine = s.engine := rfl
@[simp] theorem State.setTag_meter (t : Nat) (x : Tag) (s : State) :
    (s.setTag t x).meter = s.meter := rfl
@[simp] theorem State.setTag_power (t : Nat) (x : Tag) (s : State) :
    (s.setTag t x).power = s.power := rfl
@[simp] theorem State.setTag_store (t : Nat) (x : Tag) (s : State) :
    (s.setTag t x).store = s.store := rfl
@[simp] theorem State.setTag_mgmt (t : Nat) (x : Tag) (s : State) :
    (s.setTag t x).mgmt = s.mgmt := rfl
@[simp] theorem State.setTag_port (t : Nat) (x : Tag) (s : State) :
    (s.setTag t x).port = { s.port with
        tags := s.port.tags.setIfInBounds t x } := rfl

/-! ### State.issueOn -/

@[simp] theorem State.issueOn_pending (t : Nat) (r : Request) (s : State) :
    (s.issueOn t r).pending = s.pending := rfl
@[simp] theorem State.issueOn_now (t : Nat) (r : Request) (s : State) :
    (s.issueOn t r).now = s.now := rfl
@[simp] theorem State.issueOn_initTime (t : Nat) (r : Request) (s : State) :
    (s.issueOn t r).initTime = s.initTime := rfl
@[simp] theorem State.issueOn_freeCount (t : Nat) (r : Request) (s : State) :
    (s.issueOn t r).freeCount = s.freeCount := rfl
@[simp] theorem State.issueOn_pins (t : Nat) (r : Request) (s : State) :
    (s.issueOn t r).pins = s.pins := rfl
@[simp] theorem State.issueOn_bus (t : Nat) (r : Request) (s : State) :
    (s.issueOn t r).bus = s.bus := rfl
@[simp] theorem State.issueOn_host (t : Nat) (r : Request) (s : State) :
    (s.issueOn t r).host = s.host := rfl
@[simp] theorem State.issueOn_cls (t : Nat) (r : Request) (s : State) :
    (s.issueOn t r).cls = s.cls := rfl
@[simp] theorem State.issueOn_journal (t : Nat) (r : Request) (s : State) :
    (s.issueOn t r).journal = s.journal := rfl
@[simp] theorem State.issueOn_epochs (t : Nat) (r : Request) (s : State) :
    (s.issueOn t r).epochs = s.epochs := rfl
@[simp] theorem State.issueOn_wc (t : Nat) (r : Request) (s : State) :
    (s.issueOn t r).wc = s.wc := rfl
@[simp] theorem State.issueOn_engine (t : Nat) (r : Request) (s : State) :
    (s.issueOn t r).engine = s.engine := rfl
@[simp] theorem State.issueOn_meter (t : Nat) (r : Request) (s : State) :
    (s.issueOn t r).meter = s.meter := rfl
@[simp] theorem State.issueOn_power (t : Nat) (r : Request) (s : State) :
    (s.issueOn t r).power = s.power := rfl
@[simp] theorem State.issueOn_store (t : Nat) (r : Request) (s : State) :
    (s.issueOn t r).store = s.store := rfl
@[simp] theorem State.issueOn_mgmt (t : Nat) (r : Request) (s : State) :
    (s.issueOn t r).mgmt = s.mgmt := rfl
@[simp] theorem State.issueOn_port (t : Nat) (r : Request) (s : State) :
    (s.issueOn t r).port =
      { s.port with
        tags := s.port.tags.setIfInBounds t (.inUse r s.now s.port.limit),
        issued := s.port.issued ++ [s.busRequest t r] } := rfl

/-! ### State.startSurvey -/

@[simp] theorem State.startSurvey_pending (s : State) : (s.startSurvey).pending = s.pending := rfl
@[simp] theorem State.startSurvey_now (s : State) : (s.startSurvey).now = s.now := rfl
@[simp] theorem State.startSurvey_initTime (s : State) :
    (s.startSurvey).initTime = s.initTime := rfl
@[simp] theorem State.startSurvey_freeCount (s : State) :
    (s.startSurvey).freeCount = s.freeCount := rfl
@[simp] theorem State.startSurvey_pins (s : State) : (s.startSurvey).pins = s.pins := rfl
@[simp] theorem State.startSurvey_bus (s : State) : (s.startSurvey).bus = s.bus := rfl
@[simp] theorem State.startSurvey_host (s : State) : (s.startSurvey).host = s.host := rfl
@[simp] theorem State.startSurvey_cls (s : State) : (s.startSurvey).cls = s.cls := rfl
@[simp] theorem State.startSurvey_journal (s : State) : (s.startSurvey).journal = s.journal := rfl
@[simp] theorem State.startSurvey_epochs (s : State) : (s.startSurvey).epochs = s.epochs := rfl
@[simp] theorem State.startSurvey_wc (s : State) : (s.startSurvey).wc = s.wc := rfl
@[simp] theorem State.startSurvey_engine (s : State) : (s.startSurvey).engine = s.engine := rfl
@[simp] theorem State.startSurvey_port (s : State) : (s.startSurvey).port = s.port := rfl
@[simp] theorem State.startSurvey_power (s : State) : (s.startSurvey).power = s.power := rfl
@[simp] theorem State.startSurvey_store (s : State) : (s.startSurvey).store = s.store := rfl
@[simp] theorem State.startSurvey_mgmt (s : State) : (s.startSurvey).mgmt = s.mgmt := rfl
@[simp] theorem State.startSurvey_meter (s : State) :
    (s.startSurvey).meter =
      { s.meter with mode := .running ⟨s.now, s.meter.period, s.meter.reserve, s.meter.cost⟩ } := rfl

/-! ### State.startCalibration -/

@[simp] theorem State.startCalibration_pending (q : Bool) (s : State) :
    (s.startCalibration q).pending = s.pending := rfl
@[simp] theorem State.startCalibration_now (q : Bool) (s : State) :
    (s.startCalibration q).now = s.now := rfl
@[simp] theorem State.startCalibration_initTime (q : Bool) (s : State) :
    (s.startCalibration q).initTime = s.initTime := rfl
@[simp] theorem State.startCalibration_freeCount (q : Bool) (s : State) :
    (s.startCalibration q).freeCount = s.freeCount := rfl
@[simp] theorem State.startCalibration_pins (q : Bool) (s : State) :
    (s.startCalibration q).pins = s.pins := rfl
@[simp] theorem State.startCalibration_bus (q : Bool) (s : State) :
    (s.startCalibration q).bus = s.bus := rfl
@[simp] theorem State.startCalibration_host (q : Bool) (s : State) :
    (s.startCalibration q).host = s.host := rfl
@[simp] theorem State.startCalibration_cls (q : Bool) (s : State) :
    (s.startCalibration q).cls = s.cls := rfl
@[simp] theorem State.startCalibration_journal (q : Bool) (s : State) :
    (s.startCalibration q).journal = s.journal := rfl
@[simp] theorem State.startCalibration_epochs (q : Bool) (s : State) :
    (s.startCalibration q).epochs = s.epochs := rfl
@[simp] theorem State.startCalibration_wc (q : Bool) (s : State) :
    (s.startCalibration q).wc = s.wc := rfl
@[simp] theorem State.startCalibration_engine (q : Bool) (s : State) :
    (s.startCalibration q).engine = s.engine := rfl
@[simp] theorem State.startCalibration_port (q : Bool) (s : State) :
    (s.startCalibration q).port = s.port := rfl
@[simp] theorem State.startCalibration_power (q : Bool) (s : State) :
    (s.startCalibration q).power = s.power := rfl
@[simp] theorem State.startCalibration_store (q : Bool) (s : State) :
    (s.startCalibration q).store = s.store := rfl
@[simp] theorem State.startCalibration_mgmt (q : Bool) (s : State) :
    (s.startCalibration q).mgmt = s.mgmt := rfl
@[simp] theorem State.startCalibration_meter (q : Bool) (s : State) :
    (s.startCalibration q).meter =
      { s.meter with mode := .calibrating ⟨s.now, s.meter.period, none, q⟩, stale := true } := rfl

/-! ### State.respond -/

@[simp] theorem State.respond_pending (st : RespStatus) (p : List Byte) (s : State) :
    (s.respond st p).pending = s.pending := rfl
@[simp] theorem State.respond_now (st : RespStatus) (p : List Byte) (s : State) :
    (s.respond st p).now = s.now := rfl
@[simp] theorem State.respond_initTime (st : RespStatus) (p : List Byte) (s : State) :
    (s.respond st p).initTime = s.initTime := rfl
@[simp] theorem State.respond_freeCount (st : RespStatus) (p : List Byte) (s : State) :
    (s.respond st p).freeCount = s.freeCount := rfl
@[simp] theorem State.respond_pins (st : RespStatus) (p : List Byte) (s : State) :
    (s.respond st p).pins = s.pins := rfl
@[simp] theorem State.respond_bus (st : RespStatus) (p : List Byte) (s : State) :
    (s.respond st p).bus = s.bus := rfl
@[simp] theorem State.respond_host (st : RespStatus) (p : List Byte) (s : State) :
    (s.respond st p).host = s.host := rfl
@[simp] theorem State.respond_cls (st : RespStatus) (p : List Byte) (s : State) :
    (s.respond st p).cls = s.cls := rfl
@[simp] theorem State.respond_journal (st : RespStatus) (p : List Byte) (s : State) :
    (s.respond st p).journal = s.journal := rfl
@[simp] theorem State.respond_epochs (st : RespStatus) (p : List Byte) (s : State) :
    (s.respond st p).epochs = s.epochs := rfl
@[simp] theorem State.respond_wc (st : RespStatus) (p : List Byte) (s : State) :
    (s.respond st p).wc = s.wc := rfl
@[simp] theorem State.respond_engine (st : RespStatus) (p : List Byte) (s : State) :
    (s.respond st p).engine = s.engine := rfl
@[simp] theorem State.respond_port (st : RespStatus) (p : List Byte) (s : State) :
    (s.respond st p).port = s.port := rfl
@[simp] theorem State.respond_meter (st : RespStatus) (p : List Byte) (s : State) :
    (s.respond st p).meter = s.meter := rfl
@[simp] theorem State.respond_power (st : RespStatus) (p : List Byte) (s : State) :
    (s.respond st p).power = s.power := rfl
@[simp] theorem State.respond_store (st : RespStatus) (p : List Byte) (s : State) :
    (s.respond st p).store = s.store := rfl
@[simp] theorem State.respond_mgmt (st : RespStatus) (p : List Byte) (s : State) :
    (s.respond st p).mgmt = { s.mgmt with response := some ⟨st, p⟩ } := rfl

/-! ### State.setReceiver -/

@[simp] theorem State.setReceiver_pending (x : Receiver) (s : State) :
    (s.setReceiver x).pending = s.pending := rfl
@[simp] theorem State.setReceiver_now (x : Receiver) (s : State) :
    (s.setReceiver x).now = s.now := rfl
@[simp] theorem State.setReceiver_initTime (x : Receiver) (s : State) :
    (s.setReceiver x).initTime = s.initTime := rfl
@[simp] theorem State.setReceiver_freeCount (x : Receiver) (s : State) :
    (s.setReceiver x).freeCount = s.freeCount := rfl
@[simp] theorem State.setReceiver_pins (x : Receiver) (s : State) :
    (s.setReceiver x).pins = s.pins := rfl
@[simp] theorem State.setReceiver_bus (x : Receiver) (s : State) :
    (s.setReceiver x).bus = s.bus := rfl
@[simp] theorem State.setReceiver_host (x : Receiver) (s : State) :
    (s.setReceiver x).host = s.host := rfl
@[simp] theorem State.setReceiver_cls (x : Receiver) (s : State) :
    (s.setReceiver x).cls = s.cls := rfl
@[simp] theorem State.setReceiver_journal (x : Receiver) (s : State) :
    (s.setReceiver x).journal = s.journal := rfl
@[simp] theorem State.setReceiver_epochs (x : Receiver) (s : State) :
    (s.setReceiver x).epochs = s.epochs := rfl
@[simp] theorem State.setReceiver_wc (x : Receiver) (s : State) : (s.setReceiver x).wc = s.wc := rfl
@[simp] theorem State.setReceiver_engine (x : Receiver) (s : State) :
    (s.setReceiver x).engine = s.engine := rfl
@[simp] theorem State.setReceiver_port (x : Receiver) (s : State) :
    (s.setReceiver x).port = s.port := rfl
@[simp] theorem State.setReceiver_meter (x : Receiver) (s : State) :
    (s.setReceiver x).meter = s.meter := rfl
@[simp] theorem State.setReceiver_power (x : Receiver) (s : State) :
    (s.setReceiver x).power = s.power := rfl
@[simp] theorem State.setReceiver_store (x : Receiver) (s : State) :
    (s.setReceiver x).store = s.store := rfl
@[simp] theorem State.setReceiver_mgmt (x : Receiver) (s : State) :
    (s.setReceiver x).mgmt = { s.mgmt with receiver := x } := rfl

/-! ### State.acknowledge -/

@[simp] theorem State.acknowledge_pending (l : List Bool) (s : State) :
    (s.acknowledge l).pending = s.pending := rfl
@[simp] theorem State.acknowledge_now (l : List Bool) (s : State) :
    (s.acknowledge l).now = s.now := rfl
@[simp] theorem State.acknowledge_initTime (l : List Bool) (s : State) :
    (s.acknowledge l).initTime = s.initTime := rfl
@[simp] theorem State.acknowledge_freeCount (l : List Bool) (s : State) :
    (s.acknowledge l).freeCount = s.freeCount := rfl
@[simp] theorem State.acknowledge_pins (l : List Bool) (s : State) :
    (s.acknowledge l).pins = s.pins := rfl
@[simp] theorem State.acknowledge_bus (l : List Bool) (s : State) :
    (s.acknowledge l).bus = s.bus := rfl
@[simp] theorem State.acknowledge_host (l : List Bool) (s : State) :
    (s.acknowledge l).host = s.host := rfl
@[simp] theorem State.acknowledge_cls (l : List Bool) (s : State) :
    (s.acknowledge l).cls = s.cls := rfl
@[simp] theorem State.acknowledge_journal (l : List Bool) (s : State) :
    (s.acknowledge l).journal = s.journal := rfl
@[simp] theorem State.acknowledge_epochs (l : List Bool) (s : State) :
    (s.acknowledge l).epochs = s.epochs := rfl
@[simp] theorem State.acknowledge_wc (l : List Bool) (s : State) :
    (s.acknowledge l).wc = s.wc := rfl
@[simp] theorem State.acknowledge_engine (l : List Bool) (s : State) :
    (s.acknowledge l).engine = s.engine := rfl
@[simp] theorem State.acknowledge_port (l : List Bool) (s : State) :
    (s.acknowledge l).port = s.port := rfl
@[simp] theorem State.acknowledge_meter (l : List Bool) (s : State) :
    (s.acknowledge l).meter = s.meter := rfl
@[simp] theorem State.acknowledge_power (l : List Bool) (s : State) :
    (s.acknowledge l).power = s.power := rfl
@[simp] theorem State.acknowledge_store (l : List Bool) (s : State) :
    (s.acknowledge l).store = s.store := rfl
@[simp] theorem State.acknowledge_mgmt (l : List Bool) (s : State) :
    (s.acknowledge l).mgmt = { s.mgmt with acked := l } := rfl

/-! ### State.toInitStep -/

@[simp] theorem State.toInitStep_pending (x : InitStep) (s : State) :
    (s.toInitStep x).pending = s.pending := rfl
@[simp] theorem State.toInitStep_now (x : InitStep) (s : State) :
    (s.toInitStep x).now = s.now := rfl
@[simp] theorem State.toInitStep_initTime (x : InitStep) (s : State) :
    (s.toInitStep x).initTime = s.initTime := rfl
@[simp] theorem State.toInitStep_freeCount (x : InitStep) (s : State) :
    (s.toInitStep x).freeCount = s.freeCount := rfl
@[simp] theorem State.toInitStep_pins (x : InitStep) (s : State) :
    (s.toInitStep x).pins = s.pins := rfl
@[simp] theorem State.toInitStep_bus (x : InitStep) (s : State) :
    (s.toInitStep x).bus = s.bus := rfl
@[simp] theorem State.toInitStep_host (x : InitStep) (s : State) :
    (s.toInitStep x).host = s.host := rfl
@[simp] theorem State.toInitStep_cls (x : InitStep) (s : State) :
    (s.toInitStep x).cls = s.cls := rfl
@[simp] theorem State.toInitStep_journal (x : InitStep) (s : State) :
    (s.toInitStep x).journal = s.journal := rfl
@[simp] theorem State.toInitStep_epochs (x : InitStep) (s : State) :
    (s.toInitStep x).epochs = s.epochs := rfl
@[simp] theorem State.toInitStep_wc (x : InitStep) (s : State) : (s.toInitStep x).wc = s.wc := rfl
@[simp] theorem State.toInitStep_engine (x : InitStep) (s : State) :
    (s.toInitStep x).engine = s.engine := rfl
@[simp] theorem State.toInitStep_port (x : InitStep) (s : State) :
    (s.toInitStep x).port = s.port := rfl
@[simp] theorem State.toInitStep_meter (x : InitStep) (s : State) :
    (s.toInitStep x).meter = s.meter := rfl
@[simp] theorem State.toInitStep_store (x : InitStep) (s : State) :
    (s.toInitStep x).store = s.store := rfl
@[simp] theorem State.toInitStep_mgmt (x : InitStep) (s : State) :
    (s.toInitStep x).mgmt = s.mgmt := rfl
@[simp] theorem State.toInitStep_power (x : InitStep) (s : State) :
    (s.toInitStep x).power = { s.power with initStep := some x } := rfl

/-! ### State.rememberReset -/

@[simp] theorem State.rememberReset_pending (s : State) :
    (s.rememberReset).pending = s.pending := rfl
@[simp] theorem State.rememberReset_now (s : State) : (s.rememberReset).now = s.now := rfl
@[simp] theorem State.rememberReset_initTime (s : State) :
    (s.rememberReset).initTime = s.initTime := rfl
@[simp] theorem State.rememberReset_freeCount (s : State) :
    (s.rememberReset).freeCount = s.freeCount := rfl
@[simp] theorem State.rememberReset_pins (s : State) : (s.rememberReset).pins = s.pins := rfl
@[simp] theorem State.rememberReset_bus (s : State) : (s.rememberReset).bus = s.bus := rfl
@[simp] theorem State.rememberReset_host (s : State) : (s.rememberReset).host = s.host := rfl
@[simp] theorem State.rememberReset_cls (s : State) : (s.rememberReset).cls = s.cls := rfl
@[simp] theorem State.rememberReset_journal (s : State) :
    (s.rememberReset).journal = s.journal := rfl
@[simp] theorem State.rememberReset_epochs (s : State) : (s.rememberReset).epochs = s.epochs := rfl
@[simp] theorem State.rememberReset_wc (s : State) : (s.rememberReset).wc = s.wc := rfl
@[simp] theorem State.rememberReset_engine (s : State) : (s.rememberReset).engine = s.engine := rfl
@[simp] theorem State.rememberReset_port (s : State) : (s.rememberReset).port = s.port := rfl
@[simp] theorem State.rememberReset_meter (s : State) : (s.rememberReset).meter = s.meter := rfl
@[simp] theorem State.rememberReset_store (s : State) : (s.rememberReset).store = s.store := rfl
@[simp] theorem State.rememberReset_mgmt (s : State) : (s.rememberReset).mgmt = s.mgmt := rfl
@[simp] theorem State.rememberReset_power (s : State) :
    (s.rememberReset).power = { s.power with resetRemembered := true } := rfl

/-! ### State.readSupply -/

@[simp] theorem State.readSupply_pending (s : State) : s.readSupply.pending = s.pending := by
  unfold State.readSupply; split <;> rfl
@[simp] theorem State.readSupply_now (s : State) : s.readSupply.now = s.now := by
  unfold State.readSupply; split <;> rfl
@[simp] theorem State.readSupply_initTime (s : State) : s.readSupply.initTime = s.initTime := by
  unfold State.readSupply; split <;> rfl
@[simp] theorem State.readSupply_bus (s : State) : s.readSupply.bus = s.bus := by
  unfold State.readSupply; split <;> rfl
@[simp] theorem State.readSupply_host (s : State) : s.readSupply.host = s.host := by
  unfold State.readSupply; split <;> rfl
@[simp] theorem State.readSupply_cls (s : State) : s.readSupply.cls = s.cls := by
  unfold State.readSupply; split <;> rfl
@[simp] theorem State.readSupply_journal (s : State) : s.readSupply.journal = s.journal := by
  unfold State.readSupply; split <;> rfl
@[simp] theorem State.readSupply_epochs (s : State) : s.readSupply.epochs = s.epochs := by
  unfold State.readSupply; split <;> rfl
@[simp] theorem State.readSupply_wc (s : State) : s.readSupply.wc = s.wc := by
  unfold State.readSupply; split <;> rfl
@[simp] theorem State.readSupply_engine (s : State) : s.readSupply.engine = s.engine := by
  unfold State.readSupply; split <;> rfl
@[simp] theorem State.readSupply_port (s : State) : s.readSupply.port = s.port := by
  unfold State.readSupply; split <;> rfl
@[simp] theorem State.readSupply_meter (s : State) : s.readSupply.meter = s.meter := by
  unfold State.readSupply; split <;> rfl
@[simp] theorem State.readSupply_power (s : State) : s.readSupply.power = s.power := by
  unfold State.readSupply; split <;> rfl
@[simp] theorem State.readSupply_store (s : State) : s.readSupply.store = s.store := by
  unfold State.readSupply; split <;> rfl
@[simp] theorem State.readSupply_mgmt (s : State) : s.readSupply.mgmt = s.mgmt := by
  unfold State.readSupply; split <;> rfl
theorem State.readSupply_pins (s : State) : s.readSupply.pins
    = { s.pins with supplyGood := s.pins.supplyGood && !Config.supplySagged s.freeCount } := by
  unfold State.readSupply
  split
  · rename_i h; simp [h]
  · rename_i h
    have h : s.pins.supplyGood = false := by simpa using h
    calc s.pins = { s.pins with supplyGood := s.pins.supplyGood } := rfl
      _ = _ := by rw [h]; rfl
/-- A supply that is not reported good is not read. -/
theorem State.readSupply_of_bad {s : State} (h : s.pins.supplyGood = false) : s.readSupply = s := by
  unfold State.readSupply; simp [h]

/-! ### State.startSettle -/

@[simp] theorem State.startSettle_pending (s : State) : s.startSettle.pending = s.pending := rfl
@[simp] theorem State.startSettle_now (s : State) : s.startSettle.now = s.now := rfl
@[simp] theorem State.startSettle_initTime (s : State) : s.startSettle.initTime = s.initTime := rfl
@[simp] theorem State.startSettle_freeCount (s : State) : s.startSettle.freeCount = s.freeCount := rfl
@[simp] theorem State.startSettle_pins (s : State) : s.startSettle.pins = s.pins := rfl
@[simp] theorem State.startSettle_bus (s : State) : s.startSettle.bus = s.bus := rfl
@[simp] theorem State.startSettle_host (s : State) : s.startSettle.host = s.host := rfl
@[simp] theorem State.startSettle_cls (s : State) : s.startSettle.cls = s.cls := rfl
@[simp] theorem State.startSettle_journal (s : State) : s.startSettle.journal = s.journal := rfl
@[simp] theorem State.startSettle_epochs (s : State) : s.startSettle.epochs = s.epochs := rfl
@[simp] theorem State.startSettle_wc (s : State) : s.startSettle.wc = s.wc := rfl
@[simp] theorem State.startSettle_engine (s : State) : s.startSettle.engine = s.engine := rfl
@[simp] theorem State.startSettle_port (s : State) : s.startSettle.port = s.port := rfl
@[simp] theorem State.startSettle_meter (s : State) : s.startSettle.meter = s.meter := rfl
@[simp] theorem State.startSettle_store (s : State) : s.startSettle.store = s.store := rfl
@[simp] theorem State.startSettle_mgmt (s : State) : s.startSettle.mgmt = s.mgmt := rfl
@[simp] theorem State.startSettle_power (s : State) : s.startSettle.power
    = { s.power with settleSince := if s.pins.allHold then some s.now else none } := rfl

/-! ### State.setSupply -/

@[simp] theorem State.setSupply_pending (g : Bool) (s : State) :
    (s.setSupply g).pending = s.pending := rfl
@[simp] theorem State.setSupply_now (g : Bool) (s : State) : (s.setSupply g).now = s.now := rfl
@[simp] theorem State.setSupply_initTime (g : Bool) (s : State) :
    (s.setSupply g).initTime = s.initTime := rfl
@[simp] theorem State.setSupply_freeCount (g : Bool) (s : State) :
    (s.setSupply g).freeCount = s.freeCount := rfl
@[simp] theorem State.setSupply_bus (g : Bool) (s : State) : (s.setSupply g).bus = s.bus := rfl
@[simp] theorem State.setSupply_host (g : Bool) (s : State) : (s.setSupply g).host = s.host := rfl
@[simp] theorem State.setSupply_cls (g : Bool) (s : State) : (s.setSupply g).cls = s.cls := rfl
@[simp] theorem State.setSupply_journal (g : Bool) (s : State) :
    (s.setSupply g).journal = s.journal := rfl
@[simp] theorem State.setSupply_epochs (g : Bool) (s : State) :
    (s.setSupply g).epochs = s.epochs := rfl
@[simp] theorem State.setSupply_wc (g : Bool) (s : State) : (s.setSupply g).wc = s.wc := rfl
@[simp] theorem State.setSupply_engine (g : Bool) (s : State) :
    (s.setSupply g).engine = s.engine := rfl
@[simp] theorem State.setSupply_port (g : Bool) (s : State) : (s.setSupply g).port = s.port := rfl
@[simp] theorem State.setSupply_meter (g : Bool) (s : State) :
    (s.setSupply g).meter = s.meter := rfl
@[simp] theorem State.setSupply_power (g : Bool) (s : State) :
    (s.setSupply g).power = s.power := rfl
@[simp] theorem State.setSupply_store (g : Bool) (s : State) :
    (s.setSupply g).store = s.store := rfl
@[simp] theorem State.setSupply_mgmt (g : Bool) (s : State) : (s.setSupply g).mgmt = s.mgmt := rfl
@[simp] theorem State.setSupply_pins (g : Bool) (s : State) :
    (s.setSupply g).pins = { s.pins with supplyGood := g } := rfl

/-! ### State.setPfail -/

@[simp] theorem State.setPfail_pending (g : Bool) (s : State) :
    (s.setPfail g).pending = s.pending := rfl
@[simp] theorem State.setPfail_now (g : Bool) (s : State) : (s.setPfail g).now = s.now := rfl
@[simp] theorem State.setPfail_initTime (g : Bool) (s : State) :
    (s.setPfail g).initTime = s.initTime := rfl
@[simp] theorem State.setPfail_freeCount (g : Bool) (s : State) :
    (s.setPfail g).freeCount = s.freeCount := rfl
@[simp] theorem State.setPfail_bus (g : Bool) (s : State) : (s.setPfail g).bus = s.bus := rfl
@[simp] theorem State.setPfail_host (g : Bool) (s : State) : (s.setPfail g).host = s.host := rfl
@[simp] theorem State.setPfail_cls (g : Bool) (s : State) : (s.setPfail g).cls = s.cls := rfl
@[simp] theorem State.setPfail_journal (g : Bool) (s : State) :
    (s.setPfail g).journal = s.journal := rfl
@[simp] theorem State.setPfail_epochs (g : Bool) (s : State) :
    (s.setPfail g).epochs = s.epochs := rfl
@[simp] theorem State.setPfail_wc (g : Bool) (s : State) : (s.setPfail g).wc = s.wc := rfl
@[simp] theorem State.setPfail_engine (g : Bool) (s : State) :
    (s.setPfail g).engine = s.engine := rfl
@[simp] theorem State.setPfail_port (g : Bool) (s : State) : (s.setPfail g).port = s.port := rfl
@[simp] theorem State.setPfail_meter (g : Bool) (s : State) : (s.setPfail g).meter = s.meter := rfl
@[simp] theorem State.setPfail_power (g : Bool) (s : State) : (s.setPfail g).power = s.power := rfl
@[simp] theorem State.setPfail_store (g : Bool) (s : State) : (s.setPfail g).store = s.store := rfl
@[simp] theorem State.setPfail_mgmt (g : Bool) (s : State) : (s.setPfail g).mgmt = s.mgmt := rfl
@[simp] theorem State.setPfail_pins (g : Bool) (s : State) :
    (s.setPfail g).pins = { s.pins with pfailHigh := g } := rfl

/-! ### State.setReset -/

@[simp] theorem State.setReset_pending (g : Bool) (s : State) :
    (s.setReset g).pending = s.pending := rfl
@[simp] theorem State.setReset_now (g : Bool) (s : State) : (s.setReset g).now = s.now := rfl
@[simp] theorem State.setReset_initTime (g : Bool) (s : State) :
    (s.setReset g).initTime = s.initTime := rfl
@[simp] theorem State.setReset_freeCount (g : Bool) (s : State) :
    (s.setReset g).freeCount = s.freeCount := rfl
@[simp] theorem State.setReset_bus (g : Bool) (s : State) : (s.setReset g).bus = s.bus := rfl
@[simp] theorem State.setReset_host (g : Bool) (s : State) : (s.setReset g).host = s.host := rfl
@[simp] theorem State.setReset_cls (g : Bool) (s : State) : (s.setReset g).cls = s.cls := rfl
@[simp] theorem State.setReset_journal (g : Bool) (s : State) :
    (s.setReset g).journal = s.journal := rfl
@[simp] theorem State.setReset_epochs (g : Bool) (s : State) :
    (s.setReset g).epochs = s.epochs := rfl
@[simp] theorem State.setReset_wc (g : Bool) (s : State) : (s.setReset g).wc = s.wc := rfl
@[simp] theorem State.setReset_engine (g : Bool) (s : State) :
    (s.setReset g).engine = s.engine := rfl
@[simp] theorem State.setReset_port (g : Bool) (s : State) : (s.setReset g).port = s.port := rfl
@[simp] theorem State.setReset_meter (g : Bool) (s : State) : (s.setReset g).meter = s.meter := rfl
@[simp] theorem State.setReset_power (g : Bool) (s : State) : (s.setReset g).power = s.power := rfl
@[simp] theorem State.setReset_store (g : Bool) (s : State) : (s.setReset g).store = s.store := rfl
@[simp] theorem State.setReset_mgmt (g : Bool) (s : State) : (s.setReset g).mgmt = s.mgmt := rfl
@[simp] theorem State.setReset_pins (g : Bool) (s : State) :
    (s.setReset g).pins = { s.pins with resetHigh := g } := rfl

/-! ### State.takeWriteSlot -/

@[simp] theorem State.takeWriteSlot_pending (w : WriteReq) (s : State) :
    (s.takeWriteSlot w).pending = s.pending := rfl
@[simp] theorem State.takeWriteSlot_now (w : WriteReq) (s : State) :
    (s.takeWriteSlot w).now = s.now := rfl
@[simp] theorem State.takeWriteSlot_initTime (w : WriteReq) (s : State) :
    (s.takeWriteSlot w).initTime = s.initTime := rfl
@[simp] theorem State.takeWriteSlot_freeCount (w : WriteReq) (s : State) :
    (s.takeWriteSlot w).freeCount = s.freeCount := rfl
@[simp] theorem State.takeWriteSlot_pins (w : WriteReq) (s : State) :
    (s.takeWriteSlot w).pins = s.pins := rfl
@[simp] theorem State.takeWriteSlot_bus (w : WriteReq) (s : State) :
    (s.takeWriteSlot w).bus = s.bus := rfl
@[simp] theorem State.takeWriteSlot_cls (w : WriteReq) (s : State) :
    (s.takeWriteSlot w).cls = s.cls := rfl
@[simp] theorem State.takeWriteSlot_journal (w : WriteReq) (s : State) :
    (s.takeWriteSlot w).journal = s.journal := rfl
@[simp] theorem State.takeWriteSlot_epochs (w : WriteReq) (s : State) :
    (s.takeWriteSlot w).epochs = s.epochs := rfl
@[simp] theorem State.takeWriteSlot_wc (w : WriteReq) (s : State) :
    (s.takeWriteSlot w).wc = s.wc := rfl
@[simp] theorem State.takeWriteSlot_engine (w : WriteReq) (s : State) :
    (s.takeWriteSlot w).engine = s.engine := rfl
@[simp] theorem State.takeWriteSlot_port (w : WriteReq) (s : State) :
    (s.takeWriteSlot w).port = s.port := rfl
@[simp] theorem State.takeWriteSlot_meter (w : WriteReq) (s : State) :
    (s.takeWriteSlot w).meter = s.meter := rfl
@[simp] theorem State.takeWriteSlot_power (w : WriteReq) (s : State) :
    (s.takeWriteSlot w).power = s.power := rfl
@[simp] theorem State.takeWriteSlot_store (w : WriteReq) (s : State) :
    (s.takeWriteSlot w).store = s.store := rfl
@[simp] theorem State.takeWriteSlot_mgmt (w : WriteReq) (s : State) :
    (s.takeWriteSlot w).mgmt = s.mgmt := rfl
@[simp] theorem State.takeWriteSlot_host (w : WriteReq) (s : State) :
    (s.takeWriteSlot w).host =
      { s.host with writeSlots := s.host.writeSlots ++ [⟨w, false, false⟩] } := rfl

/-! ### State.takeReadSlot -/

@[simp] theorem State.takeReadSlot_pending (r : ReadReq) (s : State) :
    (s.takeReadSlot r).pending = s.pending := rfl
@[simp] theorem State.takeReadSlot_now (r : ReadReq) (s : State) :
    (s.takeReadSlot r).now = s.now := rfl
@[simp] theorem State.takeReadSlot_initTime (r : ReadReq) (s : State) :
    (s.takeReadSlot r).initTime = s.initTime := rfl
@[simp] theorem State.takeReadSlot_freeCount (r : ReadReq) (s : State) :
    (s.takeReadSlot r).freeCount = s.freeCount := rfl
@[simp] theorem State.takeReadSlot_pins (r : ReadReq) (s : State) :
    (s.takeReadSlot r).pins = s.pins := rfl
@[simp] theorem State.takeReadSlot_bus (r : ReadReq) (s : State) :
    (s.takeReadSlot r).bus = s.bus := rfl
@[simp] theorem State.takeReadSlot_cls (r : ReadReq) (s : State) :
    (s.takeReadSlot r).cls = s.cls := rfl
@[simp] theorem State.takeReadSlot_journal (r : ReadReq) (s : State) :
    (s.takeReadSlot r).journal = s.journal := rfl
@[simp] theorem State.takeReadSlot_epochs (r : ReadReq) (s : State) :
    (s.takeReadSlot r).epochs = s.epochs := rfl
@[simp] theorem State.takeReadSlot_wc (r : ReadReq) (s : State) :
    (s.takeReadSlot r).wc = s.wc := rfl
@[simp] theorem State.takeReadSlot_engine (r : ReadReq) (s : State) :
    (s.takeReadSlot r).engine = s.engine := rfl
@[simp] theorem State.takeReadSlot_port (r : ReadReq) (s : State) :
    (s.takeReadSlot r).port = s.port := rfl
@[simp] theorem State.takeReadSlot_meter (r : ReadReq) (s : State) :
    (s.takeReadSlot r).meter = s.meter := rfl
@[simp] theorem State.takeReadSlot_power (r : ReadReq) (s : State) :
    (s.takeReadSlot r).power = s.power := rfl
@[simp] theorem State.takeReadSlot_store (r : ReadReq) (s : State) :
    (s.takeReadSlot r).store = s.store := rfl
@[simp] theorem State.takeReadSlot_mgmt (r : ReadReq) (s : State) :
    (s.takeReadSlot r).mgmt = s.mgmt := rfl
@[simp] theorem State.takeReadSlot_host (r : ReadReq) (s : State) :
    (s.takeReadSlot r).host =
      { s.host with readSlots := s.host.readSlots ++ [⟨r, false, false⟩] } := rfl

end Sys2Proof.Machine
end

