-- ==== Sys2Proof/Laws/Kept.lean ====
section
/-! SUPPORT. What the shared operations can do, said once: `DataKept` lists the primitive updates of the
data path, and every operation keeps a property that those updates keep. Invariants, frames and bounds
are instances. -/

namespace Sys2Proof.Machine

/-! ### Lengths and indexes the primitives keep -/

@[simp] theorem answerWrite_writeSlots_length (p : Pair) (st : WriteStatus) (h : HostPort) :
    (h.answerWrite p st).writeSlots.length = h.writeSlots.length := by
  unfold HostPort.answerWrite; split <;> simp

@[simp] theorem answerWrite_readSlots (p : Pair) (st : WriteStatus) (h : HostPort) :
    (h.answerWrite p st).readSlots = h.readSlots := by
  unfold HostPort.answerWrite; split <;> rfl

@[simp] theorem answerRead_readSlots_length (p : Pair) (st : ReadStatus) (d : Block) (h : HostPort) :
    (h.answerRead p st d).readSlots.length = h.readSlots.length := by
  unfold HostPort.answerRead; split <;> simp

@[simp] theorem answerRead_writeSlots (p : Pair) (st : ReadStatus) (d : Block) (h : HostPort) :
    (h.answerRead p st d).writeSlots = h.writeSlots := by
  unfold HostPort.answerRead; split <;> rfl

@[simp] theorem moveTo_index (st : ImageState) (e : Entry) : (e.moveTo st).index = e.index := by
  unfold Entry.moveTo; split <;> rfl

@[simp] theorem moveTo_line (st : ImageState) (e : Entry) : (e.moveTo st).line = e.line := by
  unfold Entry.moveTo; split <;> rfl

@[simp] theorem fail_index (e : Entry) : e.fail.index = e.index := by simp [Entry.fail]

@[simp] theorem fail_line (e : Entry) : e.fail.line = e.line := by simp [Entry.fail]

/-! ### The data path's primitive updates -/

/-- A property of the state that every primitive update of the data path keeps. -/
structure DataKept (P : State → Prop) : Prop where
  now : ∀ {s : State} (t : Nat), P s → P { s with now := t }
  host : ∀ {s : State} (h : HostPort), h.writeSlots.length ≤ s.host.writeSlots.length →
    h.readSlots.length ≤ s.host.readSlots.length → P s → P { s with host := h }
  epochs : ∀ {s : State} (e : EpochCtl), P s → P { s with epochs := e }
  wc : ∀ {s : State} (w : WriteCtl), P s → P { s with wc := w }
  raised : ∀ {s : State} (e : EventRec), P s → P (s.raise e)
  retryOut : ∀ {s : State} (l : List StreamId), P s → P { s with mgmt := { s.mgmt with retryOut := l } }
  meter : ∀ {s : State} (m : Meter), P s → P { s with meter := m }
  entry : ∀ {s : State} (i : Nat) (f : Entry → Entry),
    (∀ e, (f e).index = e.index ∧ (f e).line = e.line) → P s → P (s.updEntry i f)
  removed : ∀ {s : State} (i : Nat), P s →
    P { s with journal := s.journal.removeEntry i, port := s.port.cutTies i }
  created : ∀ {s : State} (n : StreamId) (l : LineAddr) (p : Pair), s.journal.atLine? l = none →
    s.admits n = true → P s →
    P { s with journal := ⟨insertEntry (s.newEntry n l p) s.journal.entries, s.journal.counter + 1#32⟩ }
  engine : ∀ {s : State} (g : Engine),
    g.positions.length ≤ s.engine.positions.length ∨ g.positions.length ≤ restorePositions →
    P s → P { s with engine := g }
  queue : ∀ {s : State} (q : List Request), P s → P { s with port := { s.port with queue := q } }
  issued : ∀ {s : State} (t : Nat) (r : Request), t < generalTags ∨ r.isRestore = true → P s →
    P (s.issueOn t r)
  tag : ∀ {s : State} (t : Nat) (x : Tag), t < generalTags ∨ x = .free ∨ x = .poisoned none → P s →
    P (s.setTag t x)
  commits : ∀ {s : State} (n : Nat), s.power.device = .drain → P s →
    P { s with power := { s.power with commits := n } }

/-- A property kept along a list of updates. -/
theorem kept_foldl {α : Type} {P : State → Prop} {f : State → α → State}
    (hf : ∀ s a, P s → P (f s a)) (l : List α) {s : State} (h : P s) : P (l.foldl f s) := by
  induction l generalizing s with
  | nil => exact h
  | cons x xs ih => exact ih (hf s x h)

namespace DataKept

variable {P : State → Prop} (k : DataKept P) {s : State}
include k

/-! ### Machine/Ops.lean -/

theorem advanceTo (t : Nat) (h : P s) : P (s.advanceTo t) := k.now _ h

theorem setStream (n : StreamId) (r : Stream) (h : P s) : P (s.setStream n r) := k.epochs _ h

theorem updStream (n : StreamId) (f : Stream → Stream) (h : P s) : P (s.updStream n f) := k.epochs _ h

theorem doom (n : StreamId) (h : P s) : P (s.doom n) := k.epochs _ h

theorem answerWrite (p : Pair) (st : WriteStatus) (h : P s) : P (s.answerWrite p st) :=
  k.host _ (by simp) (by simp) h

theorem answerRead (p : Pair) (st : ReadStatus) (d : Block) (h : P s) : P (s.answerRead p st d) :=
  k.host _ (by simp) (by simp) h

theorem owePass (h : P s) : P s.owePass := k.wc _ h

theorem evalShortfall (h : P s) : P s.evalShortfall := by
  unfold State.evalShortfall
  split
  · split
    · exact h
    · exact k.raised _ (k.meter _ h)
  · exact k.meter _ h

theorem freeEntry (i : Nat) (h : P s) : P (s.freeEntry i) :=
  k.owePass (k.evalShortfall (k.removed i h))

theorem freeEntries (l : List Nat) (h : P s) : P (s.freeEntries l) :=
  kept_foldl (fun _ i h => k.freeEntry i h) l h

theorem issueOne {s' : State} (h : P s) (hs : s.issueOne = some s') : P s' := by
  unfold State.issueOne at hs
  split at hs
  · rename_i t r ht hr
    cases hs
    exact k.issued t r (.inr (by simpa using List.find?_some hr)) (k.queue _ h)
  · split at hs
    · rename_i t r rest ht hq
      cases hs
      have : t ∈ List.range generalTags := List.mem_of_find?_eq_some ht
      exact k.issued t r (.inl (List.mem_range.1 this)) (k.queue _ h)
    · cases hs

theorem issueWhile (n : Nat) (h : P s) : P (s.issueWhile n) := by
  induction n generalizing s with
  | zero => exact h
  | succ n ih =>
    unfold State.issueWhile
    split
    · rename_i s' hs; exact ih (k.issueOne h hs)
    · exact h

theorem offerTags (h : P s) : P s.offerTags := k.issueWhile _ h

theorem enqueueRequest (r : Request) (h : P s) : P (s.enqueueRequest r) := k.offerTags (k.queue _ h)

theorem submitRestore (i : Nat) (l : LineAddr) (b : Bool) (h : P s) :
    P (s.submitRestore (.restore i l b)) := by
  unfold State.submitRestore
  split
  · exact k.issued _ _ (.inr rfl) h
  · exact k.enqueueRequest _ h

theorem releaseTag (t : Nat) (h : P s) : P (s.releaseTag t) :=
  k.offerTags (k.tag t .free (.inr (.inl rfl)) h)

/-! ### Machine/Engine.lean -/

theorem enqueueJob (kind : JobKind) (n : StreamId) (c : RollCause) (h : P s) :
    P (s.enqueueJob kind n c) := k.engine _ (.inl (Nat.le_refl _)) h

theorem advanceJob (h : P s) : P s.advanceJob := by
  unfold State.advanceJob
  split
  · exact h
  · exact k.engine _ (.inl (Nat.le_refl _)) h

theorem startRestore (e : Entry) (linger : Bool) (hp : s.engine.positions.length < restorePositions)
    (h : P s) : P (s.startRestore e linger) := by
  refine k.submitRestore _ _ _ (k.engine _ (.inr ?_) (k.entry _ _ (by simp) h))
  simp only [List.length_append, List.length_cons, List.length_nil, State.updEntry_engine]
  omega

theorem fillOne {s' : State} (h : P s) (hs : s.fillOne = some s') : P s' := by
  unfold State.fillOne at hs
  split at hs
  · rename_i hp
    split at hs
    · dsimp only at hs
      split at hs <;> cases hs
      · exact k.startRestore _ _ hp (k.engine _ (.inl (Nat.le_refl _)) h)
      · exact k.engine _ (.inl (Nat.le_refl _)) h
    · split at hs
      · cases hs
        refine k.startRestore _ _ ?_ (k.engine _ (.inl ?_) h)
        · unfold Engine.markSelected; split <;> simpa using hp
        · unfold Engine.markSelected; split <;> simp
      · cases hs
  · cases hs

theorem fillWhile (n : Nat) (h : P s) : P (s.fillWhile n) := by
  induction n generalizing s with
  | zero => exact h
  | succ n ih =>
    unfold State.fillWhile
    split
    · rename_i s' hs; exact ih (k.fillOne h hs)
    · exact h

theorem fillPositions (h : P s) : P s.fillPositions := k.fillWhile _ h

theorem endEpochJob (j : Job) (n : Nat) (h : P s) : P (s.endEpochJob j n) := by
  unfold State.endEpochJob
  dsimp only
  refine k.owePass (k.updStream _ _ ?_)
  split
  · exact k.answerWrite _ _ h
  · exact h

theorem endRetryJob (j : Job) (n : Nat) (h : P s) : P (s.endRetryJob j n) := by
  unfold State.endRetryJob
  split
  · exact k.owePass (k.updStream _ _ h)
  · exact h

theorem completeRetry (n : StreamId) (h : P s) : P (s.completeRetry n) := k.retryOut _ h

theorem raiseJobEnd (j : Job) (n : Nat) (h : P s) : P (s.raiseJobEnd j n) := by
  have ite_keeps : ∀ {c : Prop} [Decidable c] {a b : State}, P a → P b → P (if c then a else b) := by
    intro c _ a b ha hb
    split
    · exact ha
    · exact hb
  have h1 := ite_keeps (c := j.kind = .epoch ∧ j.cause.raisesLost = true)
    (k.raised ⟨.epochLost, some j.stream, some j.epoch, none, none, .cause j.cause⟩ h) h
  have h2 := ite_keeps
    (c := (((if j.kind = .epoch ∧ j.cause.raisesLost = true then
      s.raise ⟨.epochLost, some j.stream, some j.epoch, none, none, .cause j.cause⟩
      else s).stream j.stream).state = .halted))
    (k.raised ⟨.streamHalted, some j.stream, some j.epoch, none, none, .failedCount n⟩ h1) h1
  exact ite_keeps (k.completeRetry _ (k.raised _ h2)) h2

theorem retryPriorJob (j : Job) (h : P s) : P (s.retryPriorJob j) := by
  unfold State.retryPriorJob
  split
  · exact k.enqueueJob _ _ _ h
  · exact h

theorem endJob (h : P s) : P s.endJob := by
  unfold State.endJob
  split
  · exact h
  · rename_i j rest hq
    dsimp only
    refine k.retryPriorJob _ (k.engine _ (.inl (Nat.le_refl _)) (k.raiseJobEnd _ _ ?_))
    split
    · exact k.endEpochJob _ _ h
    · exact k.endRetryJob _ _ h

theorem engineWhile (n : Nat) (h : P s) : P (s.engineWhile n) := by
  induction n generalizing s with
  | zero => exact h
  | succ n ih =>
    unfold State.engineWhile
    have h' := k.fillPositions (k.advanceJob h)
    dsimp only
    split
    · exact ih (k.endJob h')
    · exact h'

theorem runEngine (h : P s) : P s.runEngine := k.engineWhile _ h

/-! ### Machine/Epoch.lean -/

theorem openEpoch (n : StreamId) (h : P s) : P (s.openEpoch n) := k.epochs _ (k.updStream _ _ h)

theorem loseMembers (n : StreamId) (h : P s) : P (s.loseMembers n) := by
  unfold State.loseMembers
  have h1 := k.wc (⟨((s.membersHeld n).foldl (fun s it => s.answerWrite it.pair .lost) s).wc.hold.filter
    fun it => !(it.stream == n && it.isMember), ((s.membersHeld n).foldl
      (fun s it => s.answerWrite it.pair .lost) s).wc.passDue⟩)
    (kept_foldl (fun _ it h => k.answerWrite (HeldItem.pair it) .lost h) (s.membersHeld n) h)
  dsimp only
  split
  · exact h1
  · exact k.doom _ h1

theorem enterRollingQueued (n : StreamId) (c : RollCause) (h : P s) : P (s.enterRollingQueued n c) := by
  unfold State.enterRollingQueued
  split
  · exact h
  · exact k.owePass (k.enqueueJob _ _ _ (k.loseMembers _ (k.updStream _ _ h)))

theorem enterRolling (n : StreamId) (c : RollCause) (h : P s) : P (s.enterRolling n c) :=
  k.runEngine (k.enterRollingQueued n c h)

theorem countCommit (h : P s) : P s.countCommit := by
  unfold State.countCommit
  split
  · rename_i hd; exact k.commits _ hd h
  · exact h

theorem commitEpoch (n : StreamId) (h : P s) : P (s.commitEpoch n) := by
  unfold State.commitEpoch
  dsimp only
  refine k.owePass (k.countCommit (k.updStream _ _ ?_))
  split
  · exact k.answerWrite _ _ (k.freeEntries _ h)
  · exact k.freeEntries _ h

theorem testCommit (n : StreamId) (h : P s) : P (s.testCommit n) := by
  unfold State.testCommit
  split
  · split
    · split
      · exact k.enterRolling _ _ h
      · exact h
    · exact k.commitEpoch _ h
  · exact h

theorem giveNotice (n : StreamId) (h : P s) : P (s.giveNotice n) := k.owePass (k.updStream _ _ h)

/-! ### Machine/WriteControl.lean -/

theorem removeHeld (p : Pair) (h : P s) : P (s.removeHeld p) := k.wc _ h

theorem placeHeld (it : HeldItem) (h : P s) : P (s.placeHeld it) := by
  unfold State.placeHeld; split <;> exact k.wc _ h

theorem answerItem (it : HeldItem) (st : WriteStatus) (h : P s) : P (s.answerItem it st) := by
  unfold State.answerItem
  have h1 := k.removeHeld it.pair (k.answerWrite it.pair st h)
  dsimp only
  split
  · exact k.testCommit _ (k.doom _ h1)
  · exact h1

theorem expireItem (it : HeldItem) (h : P s) : P (s.expireItem it) := by
  unfold State.expireItem
  dsimp only
  refine k.testCommit _ (k.raised _ ?_)
  split
  · exact k.doom _ (k.removeHeld _ (k.answerWrite _ _ h))
  · exact k.removeHeld _ (k.answerWrite _ _ h)

theorem holdItem (b : Bool) (it : HeldItem) (e : Option EpochNo) (r : HoldReason) (h : P s) :
    P (s.holdItem b it e r) := by
  unfold State.holdItem
  dsimp only
  split
  · exact k.expireItem _ (k.placeHeld _ h)
  · exact k.placeHeld _ h

theorem createEntry (it : HeldItem) (l : LineAddr) (hl : s.journal.atLine? l = none)
    (ha : s.admits it.stream = true) (h : P s) : P (s.createEntry it l) :=
  k.enqueueRequest _ (k.created (s := s.removeHeld it.pair) _ _ _ hl ha (k.removeHeld _ h))

theorem forwardWrite (p : Pair) (n : StreamId) (e : Entry) (h : P s) : P (s.forwardWrite p n e) :=
  k.enqueueRequest _ (k.updStream _ _ (k.entry _ _ (fun _ => ⟨rfl, rfl⟩) (k.removeHeld _ h)))

theorem applyPolicy (b : Bool) (it : HeldItem) (e : EpochNo) (r : HoldReason) (h : P s) :
    P (s.applyPolicy b it e r) := by
  unfold State.applyPolicy
  dsimp only
  split
  · exact k.answerItem _ _ h
  · exact k.holdItem _ _ _ _ h

theorem memberPath (b : Bool) (it : HeldItem) (l : LineAddr) (h : P s) : P (s.memberPath b it l) := by
  unfold State.memberPath
  dsimp only
  split
  · exact k.holdItem _ _ _ _ h
  · split
    · rename_i hl
      split
      · rename_i ha; exact k.createEntry _ _ hl ha h
      · exact k.applyPolicy _ _ _ _ h
    · split
      · exact k.forwardWrite _ _ _ h
      · split
        · exact k.holdItem _ _ _ _ h
        · exact k.applyPolicy _ _ _ _ h

theorem writePath (b : Bool) (it : HeldItem) (l : LineAddr) (h : P s) : P (s.writePath b it l) := by
  unfold State.writePath
  split
  · exact k.memberPath _ _ _ h
  · split
    · exact k.memberPath _ _ _ (k.openEpoch _ h)
    · exact k.memberPath _ _ _ h
    · exact k.holdItem _ _ _ _ h
    · exact k.holdItem _ _ _ _ h
    · exact k.answerItem _ _ h
    · exact k.answerItem _ _ h

theorem keepMarker (n : StreamId) (m : MarkerKind) (p : Pair) (h : P s) : P (s.keepMarker n m p) := by
  unfold State.keepMarker
  split
  · exact k.testCommit _ (k.updStream _ _ h)
  · exact k.enterRolling _ _ (k.updStream _ _ h)

theorem takeMarker (b : Bool) (it : HeldItem) (m : MarkerKind) (h : P s) : P (s.takeMarker b it m) := by
  unfold State.takeMarker
  split
  · exact k.answerItem _ _ h
  · exact k.keepMarker _ _ _ (k.removeHeld _ h)
  · exact k.holdItem _ _ _ _ h
  · exact k.holdItem _ _ _ _ h
  · exact k.giveNotice _ (k.answerItem _ _ h)
  · exact k.answerItem _ _ h

theorem itemPath (b : Bool) (it : HeldItem) (h : P s) : P (s.itemPath b it) := by
  unfold State.itemPath
  split
  · exact k.writePath _ _ _ h
  · exact k.takeMarker _ _ _ h

theorem reexamine (p : Pair) (h : P s) : P (s.reexamine p) := by
  unfold State.reexamine
  split
  · exact k.itemPath _ _ h
  · exact h

theorem pass (h : P s) : P s.pass := kept_foldl (fun _ p h => k.reexamine p h) _ h

theorem passWhile (n : Nat) (h : P s) : P (s.passWhile n) := by
  induction n generalizing s with
  | zero => exact k.wc _ h
  | succ n ih =>
    unfold State.passWhile
    split
    · exact ih (k.pass (k.wc _ h))
    · exact h

theorem runPasses (h : P s) : P s.runPasses := k.passWhile _ h

theorem loseItem (it : HeldItem) (h : P s) : P (s.loseItem it) := by
  unfold State.loseItem
  dsimp only
  split
  · exact k.doom _ (k.removeHeld _ (k.answerWrite _ _ h))
  · exact k.removeHeld _ (k.answerWrite _ _ h)

theorem expireOverdue (n : StreamId) (h : P s) : P (s.expireOverdue n) := by
  refine kept_foldl (fun s it h => ?_) _ h
  split
  · exact k.owePass (k.expireItem _ h)
  · exact h

/-! ### Machine/PortOutcomes.lean -/

theorem loseTrigger (n : StreamId) (p : Pair) (h : P s) : P (s.loseTrigger n p) :=
  k.doom _ (k.answerWrite _ _ h)

theorem captureLate (e : Entry) (p : Pair) (h : P s) : P (s.captureLate e p) :=
  k.runEngine (k.testCommit _ (k.loseTrigger _ _ (k.freeEntry _ h)))

theorem forwardTo (i : Nat) (n : StreamId) (p : Pair) (h : P s) : P (s.forwardTo i n p) := by
  unfold State.forwardTo
  split
  · exact k.forwardWrite _ _ _ h
  · exact h

theorem captureOk (i : Nat) (d : Block) (h : P s) : P (s.captureOk i d) := by
  unfold State.captureOk
  split
  · exact h
  · split
    · exact h
    · split
      · exact k.owePass (kept_foldl (fun _ it h => k.forwardTo _ _ (HeldItem.pair it) h) _
          (k.forwardTo _ _ _ (k.entry _ _ (fun _ => ⟨rfl, rfl⟩) h)))
      · exact k.captureLate _ _ h

theorem captureFailed (i : Nat) (h : P s) : P (s.captureFailed i) := by
  unfold State.captureFailed
  split
  · exact h
  · split
    · exact h
    · split
      · exact k.testCommit _ (kept_foldl (fun _ it h => k.loseItem it h) _
          (k.doom _ (k.answerWrite _ _ (k.freeEntry _ h))))
      · exact k.captureLate _ _ h

theorem forwardEnd (p : Pair) (i : Nat) (n : StreamId) (st : WriteStatus) (b : Bool) (h : P s) :
    P (s.forwardEnd p i n st b) := by
  unfold State.forwardEnd
  have h1 := k.answerWrite p st (k.updStream n (fun r => { r with inFlight := r.inFlight - 1 })
    (k.entry i (fun e =>
      { e with inFlight := e.inFlight - 1, strays := if b then e.strays + 1 else e.strays })
      (fun _ => ⟨rfl, rfl⟩) h))
  dsimp only
  refine k.runEngine (k.testCommit _ ?_)
  split
  · exact h1
  · exact k.doom _ h1

theorem freePosition (i : Nat) (h : P s) : P (s.freePosition i) :=
  k.engine _ (.inl (List.length_eraseP_le)) h

theorem countRestoreOk (b : Bool) (h : P s) : P (s.countRestoreOk b) := by
  refine k.engine _ (.inl ?_) h
  unfold Engine.countRestored
  repeat' split
  all_goals simp

theorem restoreOk (e : Entry) (b : Bool) (h : P s) : P (s.restoreOk e b) := by
  unfold State.restoreOk
  have h1 := k.countRestoreOk b (k.freePosition e.index h)
  dsimp only
  refine k.runEngine ?_
  split
  · exact k.freeEntry _ h1
  · exact k.entry _ _ (by simp) h1

theorem countRestoreFailed (h : P s) : P s.countRestoreFailed := by
  unfold State.countRestoreFailed
  split
  · exact k.engine _ (.inl (Nat.le_refl _)) h
  · exact h

theorem lingerFailed (e : Entry) (h : P s) : P (s.lingerFailed e) := by
  unfold State.lingerFailed
  split
  · exact k.raised _ (k.updStream _ _ h)
  · exact k.raised _ (k.updStream _ _ h)
  · split
    · exact k.enterRolling _ _ h
    · exact k.enterRolling _ _ (k.doom _ h)
  · split
    · exact k.enterRolling _ _ h
    · exact k.enterRolling _ _ (k.doom _ h)
  · exact h
  · exact h

theorem restoreFailed (e : Entry) (b : Bool) (h : P s) : P (s.restoreFailed e b) := by
  unfold State.restoreFailed
  have h1 := k.countRestoreFailed (k.entry e.index Entry.fail (by simp) (k.freePosition e.index h))
  dsimp only
  refine k.runEngine ?_
  split
  · exact k.lingerFailed _ h1
  · exact h1

theorem restoreEnd (i : Nat) (b g : Bool) (h : P s) : P (s.restoreEnd i b g) := by
  unfold State.restoreEnd
  split
  · exact h
  · split
    · exact k.restoreOk _ _ h
    · exact k.restoreFailed _ _ h

theorem handOk (r : Request) (d : Block) (h : P s) : P (s.handOk r d) := by
  unfold State.handOk
  split
  · exact k.answerRead _ _ _ h
  · exact k.answerWrite _ _ h
  · exact k.captureOk _ _ h
  · exact k.forwardEnd _ _ _ _ _ h
  · exact k.restoreEnd _ _ _ h

theorem handBad (r : Request) (b : Bool) (h : P s) : P (s.handBad r b) := by
  unfold State.handBad
  split
  · exact k.answerRead _ _ _ h
  · exact k.answerWrite _ _ h
  · exact k.captureFailed _ h
  · exact k.forwardEnd _ _ _ _ _ h
  · exact k.restoreEnd _ _ _ h

theorem lateArrival (t : Tie) (h : P s) : P (s.lateArrival t) := by
  unfold State.lateArrival
  have h1 := k.entry t.entry (fun e => { e with strays := e.strays - 1 }) (fun _ => ⟨rfl, rfl⟩) h
  dsimp only
  split
  · split
    · refine k.runEngine (k.engine _ (.inl ?_) h1)
      unfold Engine.joinLinger
      split <;> simp
    · exact h1
  · exact h1

/-! ### Machine/MeterOps.lean -/

theorem startSurvey (h : P s) : P s.startSurvey := k.meter _ h

theorem startCalibration (b : Bool) (h : P s) : P (s.startCalibration b) := k.meter _ h

theorem publish (sv : Survey) (raw : Nat) (h : P s) : P (s.publish sv raw) := by
  unfold State.publish
  have h1 := k.meter (s.meter.publish sv raw) h
  dsimp only
  refine k.startSurvey (k.owePass (k.evalShortfall ?_))
  split
  · exact k.raised _ h1
  · exact h1

end DataKept

end Sys2Proof.Machine
end

