-- ==== Sys2Proof/Laws/KeptActs.lean ====
section
/-! SUPPORT. What acts, commands and the other blocks' operations can do, said once: a property that
the primitive updates keep is kept by every command (`Kept.exec`) and by every step (`Kept.step`). -/

namespace Sys2Proof.Machine

/-- A property of the state that implies the device state's form and is kept by every primitive update
of the part. -/
structure Kept (P : State → Prop) : Prop extends DataKept P where
  device : ∀ {s : State}, P s → s.deviceOk
  reserved : ∀ {s : State} {t : Nat} {r : Request} {a l : Nat}, P s →
    s.port.tags[t]? = some (.inUse r a l) → t < generalTags ∨ r.isRestore = true
  freeCount : ∀ {s : State} (n : Nat), P s → P { s with freeCount := n }
  pins : ∀ {s : State} (p : Pins), P s → P { s with pins := p }
  bus : ∀ {s : State} (b : HostBus), P s → P { s with bus := b }
  tookWrite : ∀ {s : State} (x : WriteSlot), s.power.device = .ready →
    s.host.writeSlots.length < slotsPerKind → P s →
    P { s with host := { s.host with writeSlots := s.host.writeSlots ++ [x] } }
  tookRead : ∀ {s : State} (x : ReadSlot), s.power.device = .ready →
    s.host.readSlots.length < slotsPerKind → P s →
    P { s with host := { s.host with readSlots := s.host.readSlots ++ [x] } }
  cls : ∀ {s : State} (c : Classifier), P s → P { s with cls := c }
  limit : ∀ {s : State} (n : Nat), P s → P { s with port := { s.port with limit := n } }
  store : ∀ {s : State} (st : Store),
    st.op = .idle ∨ (s.power.initStep = some .store ∧ st.op.isProgramming = false) → P s →
    P { s with store := st }
  program : ∀ {s : State} (b : Bool) (x : Block), s.power.device = .drain → P s →
    P { s with store := { s.store with op := .programming s.store.next b x } }
  cause : ∀ {s : State} (c : DrainCause), P s → P { s with power := { s.power with cause := c } }
  remembered : ∀ {s : State} (b : Bool), P s →
    P { s with power := { s.power with resetRemembered := b } }
  phase : ∀ {s : State} (ph : DrainPhase), ph ≠ .none → s.power.device = .drain → P s →
    P { s with power := { s.power with phase := ph } }
  initStep : ∀ {s : State} (x : InitStep), s.power.device = .init → s.store.op = .idle → P s →
    P (s.toInitStep x)
  scan : ∀ {s : State}, s.power.device = .init → P s →
    P (({ s with store := { s.store with op := .scanning } }).toInitStep .store)
  toReady : ∀ {s : State}, s.power.device = .init → s.store.op = .idle → P s →
    P { s with power := { s.power with device := .ready, initStep := none } }
  toDrain : ∀ {s : State} (c : DrainCause) (b : Bool), s.power.device = .ready → P s →
    P { s with power := { s.power with
      device := .drain, cause := c, phase := .settling, commits := 0, resetRemembered := b } }
  toSpent : ∀ {s : State}, s.power.device = .drain ∨ s.power.device = .init → s.store.op = .idle →
    P s →
    P { s with power := { s.power with
      device := .spent, initStep := none, phase := .none, settleSince := none } }
  settle : ∀ {s : State} (x : Option Nat), s.power.device = .spent → P s →
    P { s with power := { s.power with settleSince := x } }
  toInit : ∀ {s : State} (c : Bool) (x : InitStep), s.power.device = .init ∨ s.power.device = .spent →
    s.store.op = .idle → P s →
    P { s.clearBlocks c with
      power := { (s.clearBlocks c).power with device := .init, initStep := some x } }
  por : ∀ {s : State} (a : BitVec 7), s.power.device = .off → P s →
    P (s.volatileAtPor .init (some .clear) a)
  off : ∀ {s : State} (a : BitVec 7), P s → P (s.volatileAtPor .off none a)
  longOut : ∀ {s : State} (r c : Bool), P s →
    P { s with mgmt := { s.mgmt with restartOut := r, calibrateOut := c } }
  response : ∀ {s : State} (r : Option Response), P s →
    P { s with mgmt := { s.mgmt with response := r } }
  link : ∀ {s : State} (x : Receiver) (l : List Byte) (a : List Bool), P s →
    P { s with mgmt := { s.mgmt with receiver := x, sent := l, acked := a } }
  flags : ∀ {s : State} (m : BitVec 16), P s →
    P { s with mgmt := { s.mgmt with flags := clearFlags s.mgmt.flags m } }
  mask : ∀ {s : State} (m : BitVec 16), P s →
    P { s with mgmt := { s.mgmt with mask := storedMask m } }
  events : ∀ {s : State} (e : EventRec) (l : List EventRec), s.mgmt.events = e :: l → P s →
    P { s with mgmt := { s.mgmt with events := l } }

/-! ### What the form of the device state says -/

/-- The store is idle when it neither programs nor stands in step 2 of INIT. -/
theorem storeIdle_of {s : State} (h : s.deviceOk) (hd : s.power.device ≠ .drain)
    (hi : s.power.initStep ≠ some .store) : s.store.op = .idle := by
  have h4 := h.2.2.2
  unfold State.storeOpFits at h4
  split at h4
  · assumption
  · exact absurd (by simpa using h4) hi
  · exact absurd (by simpa using h4) hi
  · exact absurd (by simpa using h4) hd

/-- In DRAIN a store that programs nothing is idle. -/
theorem storeIdle_of_drain {s : State} (h : s.deviceOk) (hd : s.power.device = .drain)
    (hp : s.store.op.isProgramming = false) : s.store.op = .idle := by
  have h1 := h.1
  have h4 := h.2.2.2
  have hn : s.power.initStep ≠ some .store := by
    intro he
    have := h1.1 (by rw [he]; rfl)
    rw [hd] at this
    cases this
  unfold State.storeOpFits at h4
  unfold StoreOp.isProgramming at hp
  split at h4
  · assumption
  · exact absurd (by simpa using h4) hn
  · exact absurd (by simpa using h4) hn
  · rename_i ho; rw [ho] at hp; cases hp

/-- Step 2 of INIT is a step of INIT. -/
theorem device_of_initStep {s : State} (h : s.deviceOk) {x : InitStep}
    (hx : s.power.initStep = some x) : s.power.device = .init := h.1.1 (by rw [hx]; rfl)

namespace Kept

variable {P : State → Prop} (k : Kept P) {s : State}
include k

/-! ### Machine/MeterOps.lean -/

theorem completeCalibrate (w : Option Bool) (h : P s) : P (s.completeCalibrate w) :=
  k.longOut _ false (k.raised _ h)

theorem endCalibration (c : Calibration) (a b : Int) (h : P s) : P (s.endCalibration c a b) := by
  unfold State.endCalibration
  have h1 := k.startSurvey (k.meter ({ s.meter with offset := zeroMean a b }) h)
  dsimp only
  split
  · exact k.completeCalibrate _ h1
  · exact h1

theorem abandonCalibration (h : P s) : P s.abandonCalibration := by
  unfold State.abandonCalibration
  split
  · exact k.completeCalibrate _ (k.startSurvey h)
  · exact h
  · exact h

/-! ### Machine/Drain.lean -/

theorem readSupply (h : P s) : P s.readSupply := by
  unfold State.readSupply
  split
  · exact k.freeCount _ (k.pins { s.pins with supplyGood := !Config.supplySagged s.freeCount } h)
  · exact h

theorem startSettle (hd : s.power.device = .spent) (h : P s) : P s.startSettle := k.settle _ hd h

theorem settleCheck (h : P s) : P s.settleCheck := by
  unfold State.settleCheck
  split
  · rename_i hd
    split
    · split
      · exact h
      · exact k.startSettle (by simpa using hd) (k.readSupply h)
    · exact k.startSettle hd h
  · exact h

theorem wakeMeter (h : P s) : P s.wakeMeter := by
  unfold State.wakeMeter
  split
  · exact k.startSurvey h
  · exact h
  · exact h

theorem enterSpent (hd : s.power.device = .drain ∨ s.power.device = .init)
    (ho : s.store.op = .idle) (h : P s) : P s.enterSpent :=
  k.settleCheck (k.wakeMeter (k.toSpent hd ho h))

theorem endDrain (hd : s.power.device = .drain) (ho : s.store.op = .idle) (h : P s) : P s.endDrain := by
  unfold State.endDrain
  dsimp only
  split
  · exact k.longOut false _ (k.raised _ (k.enterSpent (.inl hd) ho h))
  · exact k.enterSpent (.inl hd) ho h

theorem programRecord (b : Bool) (x : Block) (hd : s.power.device = .drain) (h : P s) :
    P (s.programRecord b x) := by
  unfold State.programRecord
  split
  · exact k.program _ _ hd h
  · exact h

theorem record (hd : s.power.device = .drain) (hp : s.store.op.isProgramming = false) (h : P s) :
    P s.record := by
  have h1 := k.phase .recording (by decide) hd h
  unfold State.record
  dsimp only
  split
  · exact k.programRecord _ _ hd h1
  · exact k.endDrain (s := { s with power := { s.power with phase := .recording } }) hd
      (storeIdle_of_drain (s := s) (k.device h) hd hp) h1

theorem lingerPass (h : P s) : P s.lingerPass := by
  refine k.engine _ (.inl (Nat.le_of_eq ?_)) h
  have hj : ∀ (g : Engine) (i : Nat), (g.joinLinger i).positions = g.positions := by
    intro g i; unfold Engine.joinLinger; split <;> rfl
  have : ∀ (l : List Entry) (g : Engine),
      (l.foldl (fun g e => g.joinLinger e.index) g).positions = g.positions := by
    intro l
    induction l with
    | nil => intro g; rfl
    | cons x xs ih => intro g; rw [List.foldl_cons, ih, hj]
  rw [this]

theorem handOver (hd : s.power.device = .drain) (h : P s) : P s.handOver := by
  unfold State.handOver
  have h1 := k.engine (s := { s with power := { s.power with phase := .rollingBack } })
    { s.engine with queue := s.engine.queue.map fun j => { j with prior := true } }
    (.inl (Nat.le_refl _)) (k.phase .rollingBack (by decide) hd h)
  exact k.runEngine (k.lingerPass
    (kept_foldl (fun _ n h => k.enqueueJob .retry n .drain h) _
      (kept_foldl (fun _ n h => k.enterRollingQueued n .drain h) _ h1)))

theorem testSettling (h : P s) : P s.testSettling := by
  unfold State.testSettling
  split
  · rename_i hc; exact k.handOver hc.1 h
  · exact h

theorem testRollingBack (h : P s) : P s.testRollingBack := by
  unfold State.testRollingBack
  split
  · rename_i hc
    have hp : s.store.op.isProgramming = false := by
      have h3 := hc.2.2
      unfold State.rollingBackOver at h3
      simp only [Bool.and_eq_true, Bool.not_eq_true'] at h3
      exact h3.2
    exact k.record hc.1 hp h
  · exact h

theorem endAct (h : P s) : P s.endAct :=
  k.runPasses (k.testRollingBack (k.testSettling (k.runPasses h)))

theorem loseHeld (h : P s) : P s.loseHeld := kept_foldl (fun _ it h => k.loseItem it h) _ h

/-- The drain's first act keeps the property when its parts keep the device in DRAIN. -/
theorem beginDrain (c : DrainCause) (hd : s.power.device = .ready) (h : P s) : P (s.beginDrain c) := by
  unfold State.beginDrain
  have h1 := k.engine (s := { s with power := { s.power with
      device := .drain, cause := c, phase := .settling, commits := 0
      resetRemembered := s.power.resetRemembered || c == DrainCause.reset } })
    { s.engine with restoredTally := 0, failedTally := 0, lingerTally := 0 } (.inl (Nat.le_refl _))
    (k.toDrain c _ hd h)
  have hl : ∀ (it : HeldItem) (s : State), (s.loseItem it).power = s.power := by
    intro it s; unfold State.loseItem; dsimp only; split <;> rfl
  have hf : ∀ (l : List HeldItem) (s : State),
      (l.foldl (fun s it => s.loseItem it) s).power = s.power := by
    intro l
    induction l with
    | nil => intro s; rfl
    | cons x xs ih => intro s; rw [List.foldl_cons, ih, hl]
  have ha : ∀ s : State, s.abandonCalibration.power = s.power := by
    intro s; unfold State.abandonCalibration State.completeCalibrate; split <;> rfl
  dsimp only
  refine k.endAct (k.programRecord _ _ ?_ (k.abandonCalibration (k.loseHeld h1)))
  rw [ha]
  unfold State.loseHeld
  rw [hf]

/-! ### Machine/Accept.lean -/

theorem takeWriteSlot (w : WriteReq) (hd : s.power.device = .ready)
    (hw : s.host.writeSlots.length < slotsPerKind) (h : P s) : P (s.takeWriteSlot w) :=
  k.tookWrite _ hd hw h

theorem takeReadSlot (r : ReadReq) (hd : s.power.device = .ready)
    (hw : s.host.readSlots.length < slotsPerKind) (h : P s) : P (s.takeReadSlot r) :=
  k.tookRead _ hd hw h

theorem refuseAtOnce (w : WriteReq) (b : Bool) (hd : s.power.device = .ready)
    (hw : s.host.writeSlots.length < slotsPerKind) (h : P s) : P (s.refuseAtOnce w b) :=
  k.host (s := { s with host := { s.host with writeSlots := s.host.writeSlots ++ [⟨w, b, true⟩] } })
    { s.host with
      writeSlots := s.host.writeSlots ++ [⟨w, b, true⟩]
      writeResponses := s.host.writeResponses ++ [⟨w.pair, .refused, b⟩] }
    (Nat.le_refl _) (Nat.le_refl _) (k.tookWrite _ hd hw h)

theorem actOnClass (w : WriteReq) (b : Bool) (c : WriteClass) (hd : s.power.device = .ready)
    (hw : s.host.writeSlots.length < slotsPerKind) (h : P s) : P (s.actOnClass w b c) := by
  have ht := k.takeWriteSlot w hd hw h
  unfold State.actOnClass
  split
  · exact k.refuseAtOnce _ _ hd hw h
  · exact k.takeMarker _ _ _ ht
  · exact k.refuseAtOnce _ _ hd hw h
  · exact k.refuseAtOnce _ _ hd hw h
  · exact k.refuseAtOnce _ _ hd hw h
  · exact k.answerWrite _ _ ht
  · exact k.enqueueRequest _ ht
  · exact k.writePath _ _ _ ht

theorem acceptWrite (w : WriteReq) (hd : s.power.device = .ready)
    (hw : s.host.writeSlots.length < slotsPerKind) (h : P s) : P (s.acceptWrite w) :=
  k.endAct (k.actOnClass _ _ _ hd hw h)

theorem acceptRead (r : ReadReq) (hd : s.power.device = .ready)
    (hw : s.host.readSlots.length < slotsPerKind) (h : P s) : P (s.acceptRead r) := by
  unfold State.acceptRead
  split
  · exact k.host (s := { s with host := { s.host with readSlots := s.host.readSlots ++ [⟨r, true, true⟩] } })
      { s.host with
        readSlots := s.host.readSlots ++ [⟨r, true, true⟩]
        readResponses := s.host.readResponses ++ [⟨r.pair, .memory, zeroBlock, true⟩] }
      (Nat.le_refl _) (Nat.le_refl _) (k.tookRead _ hd hw h)
  · exact k.enqueueRequest _ (k.takeReadSlot _ hd hw h)

theorem acceptWrites (n : Nat) (h : P s) : P (s.acceptWrites n) := by
  induction n generalizing s with
  | zero => exact h
  | succ n ih =>
    unfold State.acceptWrites
    split
    · exact h
    · split
      · rename_i hc; exact ih (k.acceptWrite _ hc.1 hc.2 (k.bus _ h))
      · exact h

theorem acceptReads (n : Nat) (h : P s) : P (s.acceptReads n) := by
  induction n generalizing s with
  | zero => exact h
  | succ n ih =>
    unfold State.acceptReads
    split
    · exact h
    · split
      · rename_i hc; exact ih (k.acceptRead _ hc.1 hc.2 (k.bus _ h))
      · exact h

theorem acceptWaiting (h : P s) : P s.acceptWaiting := k.acceptReads _ (k.acceptWrites _ h)

/-! ### Machine/StoreOps.lean and Machine/Init.lean -/

theorem beginErase (sector : Fin 4) (why : EraseWhy) (hi : s.power.initStep = some .store) (h : P s) :
    P (s.beginErase sector why) := k.store _ (.inr ⟨hi, rfl⟩) h

theorem finishPreparation (h : P s) : P s.finishPreparation := k.store _ (.inl rfl) h

theorem prepareRoom (hi : s.power.initStep = some .store) (h : P s) : P s.prepareRoom := by
  unfold State.prepareRoom
  split
  · exact k.finishPreparation h
  · exact k.beginErase _ _ hi h

theorem prepareRing (hi : s.power.initStep = some .store) (ho : s.store.op = .idle) (h : P s) :
    P s.prepareRing := by
  unfold State.prepareRing
  split
  · exact k.prepareRoom hi (k.store _ (.inl ho) h)
  · exact k.beginErase _ _ hi h

theorem repairOrPrepare (hi : s.power.initStep = some .store) (h : P s) : P s.repairOrPrepare := by
  unfold State.repairOrPrepare
  split
  · exact k.beginErase _ _ hi h
  · exact k.prepareRing (s := { s with store := { s.store with op := .idle } }) hi rfl
      (k.store _ (.inl rfl) h)

theorem endScan (hi : s.power.initStep = some .store) (ho : s.store.op = .scanning) (h : P s) :
    P s.endScan :=
  k.repairOrPrepare hi (k.store _ (.inr ⟨hi, by simp [ho, StoreOp.isProgramming]⟩) h)

theorem endErase (sector : Fin 4) (why : EraseWhy) (b : Vector Block 16)
    (hi : s.power.initStep = some .store) (h : P s) : P (s.endErase sector why b) := by
  unfold State.endErase
  dsimp only
  split
  · split
    · exact k.repairOrPrepare hi (k.store _ (.inl rfl) h)
    · exact k.prepareRoom hi (k.store _ (.inl rfl) h)
    · exact k.finishPreparation (k.store _ (.inl rfl) h)
  · exact k.raised _ (k.store _ (.inl rfl) h)

theorem endProgram (slot : Fin 64) (a b : Block) (h : P s) : P (s.endProgram slot a b) := by
  unfold State.endProgram
  dsimp only
  split
  · exact k.store _ (.inl rfl) h
  · exact k.raised _ (k.store _ (.inl rfl) h)

theorem cutStore (h : P s) : P s.cutStore := by
  unfold State.cutStore
  split
  · exact h
  · exact k.store _ (.inl rfl) h
  · exact k.store (s := { s with freeCount := s.freeCount + 1 }) _ (.inl rfl) (k.freeCount _ h)
  · exact k.store (s := { s with freeCount := s.freeCount + 1 }) _ (.inl rfl) (k.freeCount _ h)

theorem beginMeterStep (hd : s.power.device = .init) (ho : s.store.op = .idle) (h : P s) :
    P s.beginMeterStep := k.startCalibration _ (k.initStep _ hd ho h)

theorem beginStoreStep (hd : s.power.device = .init) (ho : s.store.op = .idle) (h : P s) :
    P s.beginStoreStep := by
  unfold State.beginStoreStep
  split
  · exact k.scan hd h
  · exact k.beginMeterStep hd ho (k.store _ (.inl ho) h)

theorem storeStepDone (hd : s.power.device = .init) (h : P s) : P s.storeStepDone := by
  unfold State.storeStepDone
  split
  · rename_i ho; exact k.beginMeterStep hd ho h
  all_goals exact h

theorem leaveClearStep (hd : s.power.device = .init) (ho : s.store.op = .idle) (h : P s) :
    P s.leaveClearStep := by
  unfold State.leaveClearStep
  split
  · exact k.beginStoreStep hd ho (k.remembered _ h)
  · exact k.initStep _ hd ho h

end Kept

/-- A cut store is idle (R158). -/
@[simp] theorem cutStore_op (s : State) : s.cutStore.store.op = .idle := by
  unfold State.cutStore
  split
  · assumption
  all_goals rfl

/-- Cutting the store changes nothing of power control. -/
@[simp] theorem cutStore_power (s : State) : s.cutStore.power = s.power := by
  unfold State.cutStore
  split <;> rfl

/-- Leaving step 1 does not depend on the step INIT is said to stand in. -/
theorem leaveClearStep_toInitStep (x : InitStep) (s : State) :
    (s.toInitStep x).leaveClearStep = s.leaveClearStep := by
  obtain ⟨_, _, _, _, ⟨_, _, r⟩, _, _, _, _, _, _, _, _, _, _, ⟨_, _, _, u, _, _, _⟩, _⟩ := s
  cases r <;> cases u <;> rfl

/-! ### The store's work at INIT changes nothing of power control -/

@[simp] theorem prepareRoom_power (s : State) : s.prepareRoom.power = s.power := by
  unfold State.prepareRoom; split <;> rfl

@[simp] theorem prepareRing_power (s : State) : s.prepareRing.power = s.power := by
  unfold State.prepareRing
  split
  · rw [prepareRoom_power]
  · rfl

@[simp] theorem repairOrPrepare_power (s : State) : s.repairOrPrepare.power = s.power := by
  unfold State.repairOrPrepare
  split
  · rfl
  · rw [prepareRing_power]

@[simp] theorem endScan_power (s : State) : s.endScan.power = s.power := by
  unfold State.endScan
  rw [repairOrPrepare_power]

@[simp] theorem endErase_power (n : Fin 4) (w : EraseWhy) (b : Vector Block 16) (s : State) :
    (s.endErase n w b).power = s.power := by
  unfold State.endErase
  extract_lets contents st s1
  have h1 : s1.power = s.power := rfl
  clear_value s1
  split
  · cases w
    · exact (repairOrPrepare_power s1).trans h1
    · exact (prepareRoom_power _).trans h1
    · exact h1
  · exact h1

namespace Kept

variable {P : State → Prop} (k : Kept P) {s : State}
include k

theorem beginInit (c : Bool) (hd : s.power.device = .spent) (h : P s) : P (s.beginInit c) := by
  have ho : s.store.op = .idle := by
    refine storeIdle_of (k.device h) (by rw [hd]; decide) fun he => ?_
    have := device_of_initStep (k.device h) he
    rw [hd] at this
    cases this
  have h1 := k.toInit c .clear (.inr hd) ho h
  have h2 := k.leaveClearStep (s := { s.clearBlocks c with
      power := { (s.clearBlocks c).power with device := .init, initStep := some .clear } }) rfl ho h1
  have he := leaveClearStep_toInitStep .clear
    { s.clearBlocks c with power := { (s.clearBlocks c).power with device := .init } }
  unfold State.beginInit
  dsimp only
  rw [← he]
  exact h2

theorem cutInit (c : DrainCause) (hd : s.power.device = .init) (h : P s) : P (s.cutInit c) := by
  have h1 := k.cause c (k.cutStore h)
  exact k.enterSpent (s := { s.cutStore with power := { s.cutStore.power with cause := c } })
    (.inr (by simpa using hd)) (by simp) h1

theorem openOrSpend (hd : s.power.device = .init) (ho : s.store.op = .idle) (h : P s) :
    P s.openOrSpend := by
  have h1 := k.readSupply h
  have hd1 : s.readSupply.power.device = .init := by simpa using hd
  unfold State.openOrSpend
  dsimp only
  split
  · exact k.cutInit _ hd1 h1
  · split
    · exact k.cutInit _ hd1 h1
    · exact k.acceptWaiting (k.toReady hd1 (by simpa using ho) h1)

theorem finishInit (hd : s.power.device = .init) (ho : s.store.op = .idle) (h : P s) :
    P s.finishInit := k.openOrSpend hd ho (k.raised _ h)

theorem dropMeterWork (h : P s) : P s.dropMeterWork := by
  unfold State.dropMeterWork
  split
  · exact k.startSurvey h
  · split
    · exact k.startSurvey h
    · exact h
  · exact h

theorem restartInit (hd : s.power.device = .init) (h : P s) : P s.restartInit := by
  have hs := (k.device h).1.2 hd
  obtain ⟨x, hx⟩ := Option.isSome_iff_exists.1 hs
  have h1 := k.remembered true (k.cutStore h)
  have h2 := k.toInit (s := { s.cutStore with power := { s.cutStore.power with resetRemembered := true } })
    true x (.inl (by simpa using hd)) (by simp) h1
  have h3 := k.dropMeterWork h2
  have hdev : ∀ s : State, s.dropMeterWork.power = s.power ∧ s.dropMeterWork.store = s.store := by
    intro s; unfold State.dropMeterWork; repeat' split
    all_goals exact ⟨rfl, rfl⟩
  have h4 := k.leaveClearStep (by rw [(hdev _).1]) (by rw [(hdev _).2]; simp [State.clearBlocks]) h3
  unfold State.restartInit
  have he : ∀ p : Power, p.device = .init → p.initStep = some x →
      ({ p with resetRemembered := true, commits := 0, phase := .none, settleSince := none,
                initStep := p.initStep } : Power)
        = { p with resetRemembered := true, commits := 0, phase := .none, settleSince := none,
                   device := .init, initStep := some x } := by
    intro p h1 h2; cases p; simp_all
  have := he s.cutStore.power (by simpa using hd) (by simpa using hx)
  simp only [State.clearBlocks] at h4 ⊢
  rw [this]
  exact h4

/-! ### Meanings: host port, memory port, timers -/

theorem responseTaken (ch : Channel) (h : P s) : P (s.responseTaken ch) := by
  unfold State.responseTaken
  refine k.acceptWaiting (k.endAct (k.host _ ?_ ?_ h))
  all_goals
    cases ch
    all_goals dsimp only
    all_goals first | unfold HostPort.takeWriteResponse | unfold HostPort.takeReadResponse
    all_goals split <;> simp [List.length_eraseP_le]

theorem answeredRequest (t : Nat) (r : Request) (st : MemStatus) (d : Block) (h : P s) :
    P (s.answeredRequest t r st d) := by
  unfold State.answeredRequest
  split
  · exact k.endAct (k.handOk _ _ (k.releaseTag _ h))
  · exact k.raised _ (k.endAct (k.handBad _ _ (k.releaseTag _ h)))

theorem lateResponse (t : Nat) (x : Option Tie) (h : P s) : P (s.lateResponse t x) := by
  unfold State.lateResponse
  split
  · exact k.endAct (k.lateArrival _ (k.releaseTag _ h))
  · exact k.endAct (k.releaseTag _ h)

theorem requestTimedOut (t : Nat) (r : Request)
    (ht : t < generalTags ∨ Tag.poisoned r.tie = .free ∨ Tag.poisoned r.tie = .poisoned none) (h : P s) :
    P (s.requestTimedOut t r) := k.raised _ (k.endAct (k.handBad _ _ (k.tag _ _ ht h)))

theorem rollbackAll (h : P s) : P s.rollbackAll := kept_foldl (fun _ n h => k.enterRolling n _ h) _ h

theorem afterPublication (h : P s) : P s.afterPublication := by
  unfold State.afterPublication
  split
  · rename_i hc
    exact k.finishInit hc.1 (storeIdle_of (k.device h) (by rw [hc.1]; decide) (by rw [hc.2]; decide)) h
  · exact h

theorem afterCalibration (h : P s) : P s.afterCalibration := by
  unfold State.afterCalibration
  split
  · rename_i hc
    exact k.initStep _ hc.1 (storeIdle_of (k.device h) (by rw [hc.1]; decide) (by rw [hc.2]; decide)) h
  · exact h

theorem firstZeroReading (c : Calibration) (i : Int) (h : P s) : P (s.firstZeroReading c i) :=
  k.meter _ h

theorem setSupply (b : Bool) (h : P s) : P (s.setSupply b) := k.pins _ h

theorem setPfail (b : Bool) (h : P s) : P (s.setPfail b) := k.pins _ h

theorem setReset (b : Bool) (h : P s) : P (s.setReset b) := k.pins _ h

theorem rememberReset (h : P s) : P s.rememberReset := k.remembered _ h

theorem resetReleased (h : P s) : P s.resetReleased := by
  unfold State.resetReleased
  split
  · rename_i hc
    exact k.leaveClearStep hc.1
      (storeIdle_of (k.device h) (by rw [hc.1]; decide) (by rw [hc.2]; decide)) h
  · exact h

/-! ### Management commands and frames -/

theorem respond (st : RespStatus) (p : List Byte) (h : P s) : P (s.respond st p) := k.response _ h

theorem judged {α : Type} (b : Bool) (v : Option α) (f : α → State → State)
    (hf : b = true → ∀ a, P s → P (f a s)) (h : P s) : P (s.judged b v f) := by
  unfold State.judged
  split
  · rename_i hb
    split
    · exact hf hb _ h
    · exact k.respond _ _ h
  · exact k.respond _ _ h

theorem statusCmd (p : Byte) (h : P s) : P (s.statusCmd p) := by
  unfold State.statusCmd; repeat' split
  all_goals exact k.respond _ _ h

theorem outcomeCmd (b : Byte) (h : P s) : P (s.outcomeCmd b) := by
  refine k.judged _ _ _ (fun _ a h => ?_) h
  split <;> exact k.respond _ _ h

theorem eventNextCmd (h : P s) : P s.eventNextCmd := by
  unfold State.eventNextCmd
  split
  · exact k.respond _ _ h
  · rename_i e l he; exact k.respond _ _ (k.events e l he h)

theorem setStreamConfig (n : StreamId) (c : StreamConfig) (h : P s) : P (s.setStreamConfig n c) := by
  unfold State.setStreamConfig
  have h1 := k.expireOverdue n (k.updStream n (Stream.configure c) h)
  dsimp only
  refine k.endAct ?_
  have h2 : P (if ((s.updStream n (Stream.configure c)).expireOverdue n).ageOver n then
      ((s.updStream n (Stream.configure c)).expireOverdue n).enterRolling n .aged
      else (s.updStream n (Stream.configure c)).expireOverdue n) := by
    split
    · exact k.enterRolling _ _ h1
    · exact h1
  split
  · exact h2
  · exact k.owePass h2

theorem setRegion (w : Fin 8) (x : Window) (h : P s) : P (s.setRegion w x) := by
  unfold State.setRegion
  split
  · exact k.respond _ _ h
  · split
    · exact k.respond _ _ h
    · exact k.respond _ _ (k.cls _ h)

theorem setSource (src : SourceId) (m : Option StreamId) (h : P s) : P (s.setSource src m) := by
  unfold State.setSource
  split
  · exact k.respond _ _ h
  · exact k.respond _ _ (k.cls _ h)

theorem abortStream (n : StreamId) (h : P s) : P (s.abortStream n) := by
  unfold State.abortStream
  split
  · exact k.respond _ _ (k.endAct (k.enterRolling _ _ h))
  · exact k.respond _ _ (k.endAct (k.enterRolling _ _ h))
  all_goals exact k.respond _ _ h

theorem beginRetry (n : StreamId) (h : P s) : P (s.beginRetry n) :=
  k.endAct (k.runEngine (k.enqueueJob _ _ _ (k.retryOut _ h)))

theorem discardFailed (n : StreamId) (h : P s) : P (s.discardFailed n) :=
  k.endAct (k.owePass (k.updStream _ _ (k.freeEntries _ h)))

theorem beginRestart (hd : s.power.device = .ready) (h : P s) : P s.beginRestart :=
  k.beginDrain (s := { s with mgmt := { s.mgmt with restartOut := true } }) _ hd
    (k.longOut true s.mgmt.calibrateOut h)

theorem streamSetCmd (n p : Byte) (x q a : BitVec 16) (h : P s) : P (s.streamSetCmd n p x q a) :=
  k.judged _ _ _ (fun _ v h => k.respond _ _ (k.setStreamConfig v.1 v.2 h)) h

theorem resumeRetryCmd (n : Byte) (h : P s) : P (s.resumeRetryCmd n) := by
  refine k.judged _ _ _ (fun _ a h => ?_) h
  split
  · exact k.respond _ _ (k.beginRetry a h)
  · exact k.respond _ _ h

theorem resumeDiscardCmd (n : Byte) (h : P s) : P (s.resumeDiscardCmd n) := by
  refine k.judged _ _ _ (fun _ a h => ?_) h
  split
  · exact k.respond _ _ (k.discardFailed a h)
  · exact k.respond _ _ h

theorem meterSetCmd (p r c x : BitVec 16) (h : P s) : P (s.meterSetCmd p r c x) :=
  k.judged _ _ _ (fun _ a h => k.respond _ _
    (k.endAct (k.owePass (k.evalShortfall (k.meter (s.meter.configure a) h))))) h

theorem calibrateCmd (h : P s) : P s.calibrateCmd := by
  refine k.judged _ _ _ (fun _ a h => ?_) h
  split
  · exact k.respond _ _ (k.startCalibration _ (k.longOut s.mgmt.restartOut true h))
  all_goals exact k.respond _ _ h

theorem restartCmd (h : P s) : P s.restartCmd :=
  k.judged _ _ _ (fun hb _ h => k.respond _ _ (k.beginRestart (by simpa [State.isReady] using hb) h)) h

theorem streamInfoCmd (n : Byte) (h : P s) : P (s.streamInfoCmd n) := by
  refine k.judged _ _ _ (fun _ v h => ?_) h
  exact k.respond _ _ h

theorem regionInfoCmd (w : Byte) (h : P s) : P (s.regionInfoCmd w) := by
  refine k.judged _ _ _ (fun _ v h => ?_) h
  exact k.respond _ _ h

theorem failedListCmd (n : Byte) (st : BitVec 16) (h : P s) : P (s.failedListCmd n st) := by
  refine k.judged _ _ _ (fun _ v h => ?_) h
  exact k.respond _ _ h

theorem entryImageCmd (e : BitVec 16) (x : Byte) (h : P s) : P (s.entryImageCmd e x) := by
  refine k.judged _ _ _ (fun _ v h => ?_) h
  exact k.respond _ _ h

theorem timeoutSetCmd (l : Byte) (h : P s) : P (s.timeoutSetCmd l) := by
  refine k.judged _ _ _ (fun _ v h => ?_) h
  exact k.respond _ _ (k.limit v h)

theorem runCommand (i : Instr) (h : P s) : P (s.runCommand i) := by
  cases i with
  | status p => exact k.statusCmd p h
  | streamInfo n => exact k.streamInfoCmd n h
  | streamSet n p x q a => exact k.streamSetCmd n p x q a h
  | regionInfo w => exact k.regionInfoCmd w h
  | regionSet w e x b c =>
    exact k.judged _ (regionSetParam w e x b c) _ (fun _ v h => k.setRegion v.1 v.2 h) h
  | sourceMapInfo => exact k.respond .ok s.cls.mapPayload h
  | sourceMapSet src n =>
    exact k.judged _ (sourceMapSetParam src n) _ (fun _ v h => k.setSource v.1 v.2 h) h
  | abort n => exact k.judged _ (streamParam n) _ (fun _ v h => k.abortStream v h) h
  | resumeRetry n => exact k.resumeRetryCmd n h
  | resumeDiscard n => exact k.resumeDiscardCmd n h
  | failedList n st => exact k.failedListCmd n st h
  | entryImage e x => exact k.entryImageCmd e x h
  | meterSet p r c x => exact k.meterSetCmd p r c x h
  | calibrate => exact k.calibrateCmd h
  | timeoutSet l => exact k.timeoutSetCmd l h
  | outcome b => exact k.outcomeCmd b h
  | eventNext => exact k.eventNextCmd h
  | flagsClear m => exact k.respond .ok [] (k.flags m h)
  | alertMaskSet m => exact k.respond .ok [] (k.mask m h)
  | restart => exact k.restartCmd h
  | _ => exact h

theorem judgeFrame (a : Byte) (l : List Byte) (b : Bool) (h : P s) : P (s.judgeFrame a l b) := by
  unfold State.judgeFrame
  split
  · exact h
  · exact k.respond _ _ h
  · unfold State.runFrame
    split
    · exact k.runCommand _ h
    · exact k.judged _ _ _ (fun _ _ h => h) h

theorem setReceiver (x : Receiver) (h : P s) : P (s.setReceiver x) :=
  k.link x s.mgmt.sent s.mgmt.acked h

theorem acknowledge (l : List Bool) (h : P s) : P (s.acknowledge l) :=
  k.link s.mgmt.receiver s.mgmt.sent l h

theorem endFrame (h : P s) : P s.endFrame := by
  unfold State.endFrame
  split
  · exact h
  · exact k.judgeFrame _ _ _ (k.setReceiver _ h)
  · exact k.setReceiver _ h

theorem byFrame (i : Instr) (h : P s) : P (s.byFrame i) := by
  unfold State.byFrame
  split
  · exact h
  · exact k.runCommand _ (k.endFrame h)

theorem requestFrame (a : Byte) (l : List Byte) (b : Bool) (h : P s) : P (s.requestFrame a l b) := by
  unfold State.requestFrame State.takeRequest State.ignoreFrame
  repeat' split
  · exact k.judgeFrame _ _ _ (k.acknowledge _ h)
  · exact k.setReceiver _ (k.acknowledge _ h)
  · exact k.acknowledge _ h
  · exact h

theorem readFrame (a : Byte) (l : List Bool) (b : Bool) (h : P s) : P (s.readFrame a l b) := by
  unfold State.readFrame State.sendResponse State.ignoreFrame
  split
  · split
    · let r := if (s.mgmt.toSend.frame a).length ≤ sentCount l then none else s.mgmt.response
      exact k.link (s := { s with mgmt := { s.mgmt with response := r } }) _ _ _ (k.response _ h)
    · exact k.acknowledge _ h
  · exact h

/-! ### Every command and every step -/

theorem memoryResponse (tag : BitVec 6) (st : MemStatus) (d : Block) {t : State} (h : P s)
    (ht : execMemoryResponse tag st d s = .next t) : P t := by
  unfold execMemoryResponse at ht
  split at ht <;> cases ht
  · exact k.answeredRequest _ _ _ _ h
  · exact k.lateResponse _ _ h
  · exact h
  · exact h

theorem responseLimitExpiry (tag : BitVec 6) {t : State} (h : P s)
    (ht : execResponseLimitExpiry tag s = .next t) : P t := by
  unfold execResponseLimitExpiry at ht
  split at ht <;> cases ht
  · rename_i r a l hr
    refine k.requestTimedOut _ _ ?_ (k.advanceTo _ h)
    rcases k.reserved h hr with hg | hg
    · exact .inl hg
    · cases r <;> simp_all [Request.isRestore, Request.tie]
  all_goals exact h

theorem holdLimitExpiry (p : Pair) {t : State} (h : P s)
    (ht : execHoldLimitExpiry p s = .next t) : P t := by
  unfold execHoldLimitExpiry at ht
  split at ht
  · split at ht <;> cases ht
    · exact k.endAct (k.owePass (k.expireItem _ (k.advanceTo _ h)))
    · exact h
  · cases ht; exact h

theorem surveyEnd (raw : BitVec 16) {t : State} (h : P s)
    (ht : execSurveyEnd raw s = .next t) : P t := by
  unfold execSurveyEnd at ht
  split at ht <;> cases ht
  · exact k.afterPublication (k.endAct (k.publish _ _ (k.advanceTo _ h)))
  all_goals exact h

theorem zeroSurveyEnd (i : BitVec 16) {t : State} (h : P s)
    (ht : execZeroSurveyEnd i s = .next t) : P t := by
  unfold execZeroSurveyEnd at ht
  split at ht
  · split at ht <;> cases ht
    · exact k.firstZeroReading _ _ (k.advanceTo _ h)
    · exact k.afterCalibration (k.endCalibration _ _ _ (k.advanceTo _ h))
  all_goals cases ht; exact h

theorem power (i : Instr) {t : State} (h : P s)
    (hi : i matches .por _ | .supplyLoss | .supplyTrip | .pfailNAssertion | .resetNAssertion
      | .supplyGood | .pfailNRise | .resetNRise | .settleTimerExpiry)
    (ht : exec i s = .next t) : P t := by
  cases i <;> first | cases hi; done | skip
  · change execPor _ s = _ at ht
    unfold execPor at ht
    split at ht <;> cases ht
    · rename_i hd
      exact k.leaveClearStep (s := (s.setSupply true).volatileAtPor .init (some .clear) _) rfl rfl
        (k.por _ hd (k.setSupply _ h))
    · exact h
  · change execSupplyLoss s = _ at ht
    unfold execSupplyLoss at ht
    split at ht <;> cases ht
    · exact h
    · exact k.off _ (k.cutStore (k.setSupply _ h))
  · change execSupplyTrip s = _ at ht
    unfold execSupplyTrip at ht
    split at ht <;> cases ht
    · exact h
    · rename_i hd; exact k.cutInit _ hd (k.setSupply _ h)
    · rename_i hd; exact k.beginDrain _ hd (k.setSupply _ h)
    · exact k.setSupply _ h
    · exact k.settleCheck (k.setSupply _ h)
  · change execPfailNAssertion s = _ at ht
    unfold execPfailNAssertion at ht
    split at ht <;> cases ht
    · exact k.setPfail _ h
    · rename_i hd; exact k.cutInit _ hd (k.setPfail _ h)
    · rename_i hd; exact k.beginDrain _ hd (k.setPfail _ h)
    · exact k.setPfail _ h
    · exact k.settleCheck (k.setPfail _ h)
  · change execResetNAssertion s = _ at ht
    unfold execResetNAssertion at ht
    split at ht <;> cases ht
    · exact k.setReset _ h
    · rename_i hd; exact k.restartInit hd (k.setReset _ h)
    · rename_i hd; exact k.beginDrain _ hd (k.setReset _ h)
    · exact k.rememberReset (k.setReset _ h)
    · exact k.settleCheck (k.rememberReset (k.setReset _ h))
  · change execSupplyGood s = _ at ht
    unfold execSupplyGood at ht
    split at ht <;> cases ht
    · exact h
    iterate 3 exact k.setSupply _ h
    · rename_i hd; exact k.startSettle hd (k.setSupply _ h)
  · cases ht; exact k.settleCheck (k.setPfail _ h)
  · cases ht; exact k.settleCheck (k.resetReleased (k.setReset _ h))
  · change execSettleTimerExpiry s = _ at ht
    unfold execSettleTimerExpiry at ht
    split at ht <;> cases ht
    · rename_i hd hs; exact k.beginInit _ hd (k.advanceTo _ h)
    · exact h

theorem slotProgramDone (b : Block) {t : State} (h : P s)
    (ht : execSlotProgramDone b s = .next t) : P t := by
  unfold execSlotProgramDone at ht
  split at ht
  · rename_i slot e x ho
    have hd : s.power.device = .drain := by
      have h4 := (k.device h).2.2.2
      unfold State.storeOpFits at h4
      rw [ho] at h4
      simpa using h4
    have he : ∀ s : State, (s.endProgram slot x b).power = s.power
        ∧ (s.endProgram slot x b).store.op = .idle := by
      intro s; unfold State.endProgram; dsimp only; split <;> exact ⟨rfl, rfl⟩
    split at ht <;> cases ht
    · exact k.endDrain (by rw [(he s).1]; exact hd) (he s).2 (k.endProgram _ _ _ h)
    · exact k.endAct (k.endProgram _ _ _ h)
  all_goals cases ht; exact h

/-- A scan or an erase stands in step 2 of INIT. -/
theorem storeStep (h : P s) (ho : s.store.op = .scanning ∨ ∃ n w, s.store.op = .erasing n w) :
    s.power.initStep = some .store := by
  have h4 := (k.device h).2.2.2
  unfold State.storeOpFits at h4
  rcases ho with ho | ⟨n, w, ho⟩ <;> rw [ho] at h4 <;> simpa using h4

theorem scanDone {t : State} (h : P s) (ht : execScanDone s = .next t) : P t := by
  unfold execScanDone at ht
  split at ht <;> cases ht
  · rename_i ho
    have hi := k.storeStep h (.inl ho)
    refine k.storeStepDone ?_ (k.endScan hi ho h)
    rw [endScan_power]
    exact device_of_initStep (k.device h) hi
  all_goals exact h

theorem sectorEraseDone (b : Vector Block 16) {t : State} (h : P s)
    (ht : execSectorEraseDone b s = .next t) : P t := by
  unfold execSectorEraseDone at ht
  split at ht
  · rename_i n w ho
    have hi := k.storeStep h (.inr ⟨n, w, ho⟩)
    have he : (s.endErase n w b).storeStepDone = t := by injection ht
    rw [← he]
    refine k.storeStepDone ?_ (k.endErase n w b hi h)
    rw [endErase_power]
    exact device_of_initStep (k.device h) hi
  all_goals
    have he : s = t := by injection ht
    rw [← he]
    exact h

/-- Every command keeps what the primitive updates keep. -/
theorem exec (i : Instr) {t : State} (h : P s) (ht : exec i s = .next t) : P t := by
  cases i with
  | hostWriteRequest w => cases ht; exact k.acceptWaiting (k.bus _ h)
  | hostReadRequest r => cases ht; exact k.acceptWaiting (k.bus _ h)
  | hostResponseTaken ch => cases ht; exact k.responseTaken ch h
  | issueRequest => cases ht; exact k.offerTags h
  | memoryResponse tag st d => exact k.memoryResponse tag st d h ht
  | responseLimitExpiry tag => exact k.responseLimitExpiry tag h ht
  | holdLimitExpiry p => exact k.holdLimitExpiry p h ht
  | ageExpiry n =>
    change execAgeExpiry n s = _ at ht
    unfold execAgeExpiry at ht
    split at ht <;> cases ht
    · exact k.endAct (k.enterRolling _ _ (k.advanceTo _ h))
    · exact h
  | rollbackNAssertion =>
    change execRollbackNAssertion s = _ at ht
    unfold execRollbackNAssertion at ht
    split at ht <;> injection ht with ht <;> rw [← ht]
    · exact k.endAct (k.rollbackAll h)
    · exact h
  | surveyEnd raw => exact k.surveyEnd raw h ht
  | zeroSurveyEnd i => exact k.zeroSurveyEnd i h ht
  | slotProgramDone b => exact k.slotProgramDone b h ht
  | scanDone => exact k.scanDone h ht
  | sectorEraseDone b => exact k.sectorEraseDone b h ht
  | por _ => exact k.power _ h rfl ht
  | supplyLoss => exact k.power _ h rfl ht
  | supplyTrip => exact k.power _ h rfl ht
  | pfailNAssertion => exact k.power _ h rfl ht
  | resetNAssertion => exact k.power _ h rfl ht
  | supplyGood => exact k.power _ h rfl ht
  | pfailNRise => exact k.power _ h rfl ht
  | resetNRise => exact k.power _ h rfl ht
  | settleTimerExpiry => exact k.power _ h rfl ht
  | readFrame a n b =>
    change execReadFrame a n b s = _ at ht
    unfold execReadFrame at ht
    split at ht <;> cases ht
    · exact h
    · exact k.readFrame _ _ _ (k.endFrame h)
  | linkStuck => cases ht; exact k.setReceiver _ h
  | requestFrame a l b =>
    change execRequestFrame a l b s = _ at ht
    unfold execRequestFrame at ht
    split at ht <;> cases ht
    · exact h
    · exact k.requestFrame _ _ _ (k.endFrame h)
  | _ => cases ht; exact k.byFrame _ h

/-- Every step keeps what the primitive updates keep, if the queue does not matter to it. -/
theorem step (hq : ∀ {s : State} (l : List Instr), P s → P { s with pending := l }) {t : State}
    (h : P s) (ht : step s = .next t) : P t := by
  unfold Machine.step at ht
  split at ht
  · cases ht; exact k.now _ h
  · exact k.exec _ (hq _ h) ht

end Kept

end Sys2Proof.Machine
end

