-- ==== Sys2Proof/Laws/Quiet.lean ====
section
/-! SUPPORT. What the shared operations do when they have nothing to take up: the end of an act with
nothing owed or nothing held, an idle engine, an empty bus, an idle link; what a request does that
can be issued or answered at once; an entry into ROLLING with the job that ends at once, and one into SPENT. -/

namespace Sys2Proof.Machine

/-! ### The end of an act (R84, R147, R149) -/

/-- With no pass owed no pass runs. -/
theorem runPasses_quiet {s : State} (h : s.noPassOwed) : s.runPasses = s := by
  unfold State.runPasses State.passWhile
  simp [show s.wc.passDue = false from h]

/-- With nothing held a pass does nothing but clear the owed mark. -/
theorem runPasses_nothingHeld {s : State} (h : s.wc.hold = []) :
    s.runPasses = { s with wc := ⟨[], false⟩ } := by
  have e : ∀ n, ({ s with wc := ⟨[], false⟩ } : State).passWhile n = { s with wc := ⟨[], false⟩ } := by
    intro n; cases n <;> rfl
  unfold State.runPasses
  rw [h]
  show s.passWhile 2 = _
  unfold State.passWhile
  have hc : ({ s with wc := { s.wc with passDue := false } } : State) = { s with wc := ⟨[], false⟩ } := by
    dsimp only
    rw [h]
  split
  · have hp : ({ s with wc := ⟨[], false⟩ } : State).pass = { s with wc := ⟨[], false⟩ } := rfl
    rw [hc, hp, e]
  · rename_i hd
    have hd : s.wc.passDue = false := by simpa using hd
    calc s = { s with wc := { s.wc with passDue := s.wc.passDue } } := rfl
      _ = { s with wc := { s.wc with passDue := false } } := by rw [hd]
      _ = _ := hc

/-- Outside DRAIN the end of an act is its pass. -/
theorem endAct_of_notDrain {s : State} (h : s.runPasses.power.device ≠ .drain) :
    s.endAct = s.runPasses.runPasses := by
  have h1 : s.runPasses.testSettling = s.runPasses := by
    unfold State.testSettling; rw [if_neg]; exact fun hc => h hc.1
  have h2 : s.runPasses.testRollingBack = s.runPasses := by
    unfold State.testRollingBack; rw [if_neg]; exact fun hc => h hc.1
  unfold State.endAct
  rw [h1, h2]

/-- Outside DRAIN with no pass owed the end of an act adds nothing. -/
theorem endAct_quiet {s : State} (h : s.quiet) : s.endAct = s := by
  have h1 := runPasses_quiet h.1
  rw [endAct_of_notDrain (by rw [h1]; exact h.2), h1, h1]

/-- Outside DRAIN with nothing held the end of an act clears the owed mark alone. -/
theorem endAct_nothingHeld {s : State} (h : s.wc.hold = []) (hd : s.power.device ≠ .drain) :
    s.endAct = { s with wc := ⟨[], false⟩ } := by
  have h1 := runPasses_nothingHeld h
  have h2 : ({ s with wc := ⟨[], false⟩ } : State).runPasses = { s with wc := ⟨[], false⟩ } :=
    runPasses_quiet rfl
  rw [endAct_of_notDrain (by rw [h1]; exact hd), h1, h2]

/-- In SETTLING, with a read unanswered and no pass owed, the end of an act adds nothing (R147). -/
theorem endAct_settling {s : State} {x : ReadSlot} (h : s.noPassOwed) (hp : s.power.phase = .settling)
    (hx : x ∈ s.host.readSlots) (ha : x.answered = false) : s.endAct = s := by
  have h1 := runPasses_quiet h
  have hs : s.settlingOver = false := by
    have : s.host.readSlots.all (·.answered) = false := by
      rw [List.all_eq_false]; exact ⟨x, hx, by simp [ha]⟩
    simp [State.settlingOver, this]
  have h2 : s.testSettling = s := by unfold State.testSettling; simp [hs]
  have h3 : s.testRollingBack = s := by unfold State.testRollingBack; simp [hp]
  unfold State.endAct
  rw [h1, h2, h3, h1]

/-! ### The rollback engine -/

/-- With nothing to take up, no position is filled. -/
theorem fillPositions_none {s : State} (h : s.fillOne = none) : s.fillPositions = s := by
  unfold State.fillPositions
  cases hn : s.engine.lingerPending.length + restorePositions with
  | zero => rfl
  | succ n => unfold State.fillWhile; rw [h]

/-- An idle engine fills no position. -/
theorem fillOne_idle {s : State} (hl : s.engine.lingerPending = []) (hj : s.nextJobEntry = none) :
    s.fillOne = none := by
  unfold State.fillOne
  simp [hl, hj]

/-- An idle engine stays as it is, however many rounds it is given. -/
theorem engineWhile_idle {s : State} (h : s.engineIdle) (k : Nat) : s.engineWhile k = s := by
  have h1 : s.advanceJob = s := by unfold State.advanceJob; simp [h.1]
  have h2 : s.fillPositions = s :=
    fillPositions_none (fillOne_idle h.2 (by unfold State.nextJobEntry; simp [h.1]))
  have h3 : s.jobOver = false := by unfold State.jobOver; simp [h.1]
  cases k with
  | zero => rfl
  | succ k => unfold State.engineWhile; simp [h1, h2, h3]

/-- An idle engine stays as it is. -/
theorem runEngine_idle {s : State} (h : s.engineIdle) : s.runEngine = s := engineWhile_idle h _

/-- A current job that has not settled keeps the engine waiting in SETTLE (R95). -/
theorem runEngine_settling {s : State} {j : Job} {rest : List Job} (hq : s.engine.queue = j :: rest)
    (hl : s.engine.lingerPending = []) (hp : j.phase ≠ .restore) (hs : j.settled s = false) :
    s.runEngine = { s with engine := { s.engine with queue := { j with phase := .settle } :: rest } } := by
  have h1 : s.advanceJob
      = { s with engine := { s.engine with queue := { j with phase := .settle } :: rest } } := by
    unfold State.advanceJob
    rw [hq]
    have : j.advance s = { j with phase := .settle } := by
      unfold Job.advance
      cases hj : j.phase
      · simp [hs]
      · simp [hs]
      · exact absurd hj hp
    simp [this]
  obtain ⟨g, hg⟩ : ∃ g, g = { s.engine with queue := { j with phase := .settle } :: rest } := ⟨_, rfl⟩
  have hgq : g.queue = { j with phase := .settle } :: rest := by rw [hg]
  have hgl : g.lingerPending = [] := by rw [hg]; exact hl
  have h2 : ({ s with engine := g } : State).fillPositions = { s with engine := g } := by
    refine fillPositions_none (fillOne_idle hgl ?_)
    unfold State.nextJobEntry
    simp [hgq]
  have h3 : ({ s with engine := g } : State).jobOver = false := by
    unfold State.jobOver
    simp [hgq]
  rw [← hg] at h1 ⊢
  unfold State.runEngine
  rw [hq]
  show s.engineWhile (2 * (rest.length + 1) + 1) = _
  unfold State.engineWhile
  rw [h1]
  dsimp only
  rw [h2, h3]
  rfl

/-- Outside DRAIN the end of the only job leaves the restore queue empty, and nothing else of the engine
changes (R100). -/
theorem endJob_engine {s : State} {j : Job} (hq : s.engine.queue = [j]) (hd : s.power.device ≠ .drain) :
    s.endJob.engine = { s.engine with queue := [] } := by
  have hr : ∀ t : State, t.power.device ≠ .drain → t.retryPriorJob j = t := by
    intro t ht; unfold State.retryPriorJob; rw [if_neg]; exact fun hc => ht hc.1
  unfold State.endJob
  rw [hq]
  dsimp only
  rw [hr]
  · cases hk : j.kind <;> simp only [State.endEpochJob, State.endRetryJob, State.raiseJobEnd, State.completeRetry]
      <;> (repeat' split) <;> simp_all
  · cases hk : j.kind <;> simp only [State.endEpochJob, State.endRetryJob, State.raiseJobEnd, State.completeRetry]
      <;> (repeat' split) <;> simp_all

/-- A settled EPOCH job, alone in the restore queue and with no entry to restore, enters RESTORE and ends at
once (R95, R100). -/
theorem runEngine_ends {s : State} {j : Job} (hq : s.engine.queue = [j])
    (hl : s.engine.lingerPending = []) (hk : j.kind = .epoch) (hp : j.phase ≠ .restore)
    (hs : j.settled s = true) (hc : j.candidates s = [])
    (ho : ∀ q ∈ s.engine.positions, q.linger = true) (hd : s.power.device ≠ .drain) :
    s.runEngine = ({ s with engine := { s.engine with
      queue := [{ j with phase := .restore, retrySet := [] }] } } : State).endJob := by
  have h1 : s.advanceJob = { s with engine := { s.engine with
      queue := [{ j with phase := .restore, retrySet := [] }] } } := by
    unfold State.advanceJob
    rw [hq]
    have : j.advance s = { j with phase := .restore, retrySet := [] } := by
      unfold Job.advance
      cases hj : j.phase
      · simp [hs, hk]
      · simp [hs, hk]
      · exact absurd hj hp
    simp [this]
  obtain ⟨g, hg⟩ : ∃ g, g = { s.engine with queue := [{ j with phase := .restore, retrySet := [] }] } :=
    ⟨_, rfl⟩
  have hgq : g.queue = [{ j with phase := .restore, retrySet := [] }] := by rw [hg]
  have hgl : g.lingerPending = [] := by rw [hg]; exact hl
  have hgp : g.positions = s.engine.positions := by rw [hg]
  rw [← hg] at h1 ⊢
  have hc' : ({ j with phase := .restore, retrySet := [] } : Job).candidates { s with engine := g } = [] := by
    unfold Job.candidates at hc ⊢
    simpa [hk] using hc
  have h2 : ({ s with engine := g } : State).fillPositions = { s with engine := g } := by
    refine fillPositions_none (fillOne_idle hgl ?_)
    unfold State.nextJobEntry
    simp [hgq, hc', newestEntry]
  have h3 : ({ s with engine := g } : State).jobOver = true := by
    unfold State.jobOver
    simp only [hgq, hc', hgp]
    simpa using ho
  have he := endJob_engine (s := { s with engine := g }) hgq hd
  unfold State.runEngine
  rw [hq]
  show s.engineWhile 3 = _
  unfold State.engineWhile
  dsimp only
  rw [h1, h2, if_pos h3]
  exact engineWhile_idle ⟨by rw [he], by rw [he]; exact hgl⟩ 2

/-! ### The entry into ROLLING (R45) -/

/-- With every held item a member of the stream, the entry into ROLLING answers them all LOST and puts the
job at the young end of the restore queue; a pass is owed. -/
theorem enterRollingQueued_members {s : State} {n : StreamId} {o : Origin} (c : RollCause)
    (hs : s.isAt n o) (hm : ∀ it ∈ s.wc.hold, it.stream = n ∧ it.epoch.isSome = true) :
    s.enterRollingQueued n c
      = ((s.losingHeld n).rolling n o c s.engine.queue .queued).owePass := by
  have ho : (s.stream n).state.origin? = some o := by
    rw [show (s.stream n).state = _ from hs]; cases o <;> rfl
  have hf : ∀ (l : List HeldItem) (t : State), l.foldl (fun s it => s.answerWrite it.pair .lost) t
      = { t with host := l.foldl (fun h it => h.answerWrite it.pair .lost) t.host } := by
    intro l
    induction l with
    | nil => intro t; rfl
    | cons x xs ih => intro t; simp only [List.foldl_cons, ih]; rfl
  have hall : s.wc.hold.filter (fun it => it.stream == n && it.isMember) = s.wc.hold := by
    rw [List.filter_eq_self]; intro it hi; simp [HeldItem.isMember, (hm it hi).1, (hm it hi).2]
  have hnone : s.wc.hold.filter (fun it => !(it.stream == n && it.isMember)) = [] := by
    rw [List.filter_eq_nil_iff]; intro it hi; simp [HeldItem.isMember, (hm it hi).1, (hm it hi).2]
  unfold State.enterRollingQueued
  rw [ho]
  dsimp only
  unfold State.loseMembers State.membersHeld
  simp only [State.updStream_wc, hall, hf, hnone]
  by_cases he : s.wc.hold = []
  · simp [he, State.losingHeld, State.rolling, State.enqueueJob, State.newJob, State.owePass,
      State.updStream, State.setStream, State.stream, EpochCtl.withStream, Age.stop]
  · simp [he, State.losingHeld, State.rolling, State.enqueueJob, State.newJob, State.owePass, State.doom,
      State.updStream, State.setStream, State.stream, EpochCtl.withStream, Age.stop]

/-! ### SPENT (R152) -/

/-- In SPENT a stopped settle timer starts by the reading of the supply, where the conditions hold. -/
theorem settleCheck_stopped {s : State} (hd : s.power.device = .spent) (ht : s.power.settleSince = none) :
    s.settleCheck = s.settling := by
  unfold State.settleCheck State.settling
  rw [if_pos hd]
  by_cases h : s.pins.settled
  · have ha : s.pins.allHold = true := by simp [Pins.allHold, h.1, h.2.1, h.2.2]
    rw [if_pos ha, if_pos h]
    simp only [ht, State.readSupply, if_pos h.1, State.startSettle]
    simp [Pins.allHold, h.2.1, h.2.2]
  · have ha : s.pins.allHold = false := by
      simp only [Pins.settled, Pins.allHold] at h ⊢; revert h
      cases s.pins.supplyGood <;> cases s.pins.pfailHigh <;> cases s.pins.resetHigh <;> simp
    rw [if_neg (by simp [ha]), if_neg h]
    simp [State.startSettle, ha]

/-- SPENT entered with the meter RUNNING. -/
theorem enterSpent_running {s : State} {sv : Survey} (h : s.meter.mode = .running sv) :
    s.enterSpent = s.inSpent := by
  unfold State.enterSpent State.wakeMeter
  simp only [h]
  rw [settleCheck_stopped rfl rfl]
  unfold State.inSpent State.settling
  split <;> rfl

/-! ### The host bus -/

/-- With nothing waiting on the bus the port takes nothing. -/
theorem acceptWaiting_empty {s : State} (h : s.busEmpty) : s.acceptWaiting = s := by
  unfold State.acceptWaiting
  simp [h.1, h.2, State.acceptWrites, State.acceptReads]

/-- One write on an otherwise empty bus, with the port open, is accepted. -/
theorem acceptWaiting_write {s : State} {w : WriteReq} (hb : s.busEmpty) (hr : s.power.device = .ready)
    (hl : s.host.writeSlots.length < slotsPerKind) :
    ({ s with bus := { s.bus with writes := s.bus.writes ++ [w] } } : State).acceptWaiting
      = s.acceptWrite w := by
  have hb1 : s.bus = ⟨[], []⟩ := by
    have h1 := hb.1
    have h2 := hb.2
    calc s.bus = ⟨s.bus.writes, s.bus.reads⟩ := rfl
      _ = _ := by rw [h1, h2]
  have hs : ({ s with bus := ⟨[], []⟩ } : State) = s := by
    rw [← hb1]
  rw [hb1]
  show (State.acceptWrites 1 { s with bus := ⟨[w], []⟩ }).acceptReads 0 = _
  show State.acceptWrites 1 { s with bus := ⟨[w], []⟩ } = _
  unfold State.acceptWrites
  dsimp only
  rw [if_pos ⟨hr, hl⟩, hs]
  rfl

/-! ### Issuing (R112) -/

/-- With an empty queue nothing is issued. -/
theorem offerTags_empty {s : State} (h : s.port.queue = []) : s.offerTags = s := by
  unfold State.offerTags
  rw [h]
  rfl

/-- A request other than a restore write that finds the queue empty and a general tag free is issued at
once. -/
theorem enqueueRequest_issue {s : State} {r : Request} {t : Nat} (h : s.canIssue t)
    (hr : r.isRestore = false) : s.enqueueRequest r = s.issueOn t r := by
  obtain ⟨hq, hf⟩ := h
  have hs : ({ s with port := { s.port with queue := [] } } : State) = s := by
    rw [← hq]
  have h1 : ({ s with port := { s.port with queue := [r] } } : State).issueOne = some (s.issueOn t r) := by
    have hn : List.find? Request.isRestore [r] = none := by simp [hr]
    have hg : ({ s.port with queue := [r] } : MemPort).freeGeneral? = some t := hf
    unfold State.issueOne
    split
    · rename_i h2; rw [hn] at h2; cases h2
    · dsimp only
      rw [hg]
      dsimp only
      rw [hs]
  unfold State.enqueueRequest State.offerTags
  rw [hq]
  show State.issueWhile 1 { s with port := { s.port with queue := [r] } } = _
  unfold State.issueWhile
  rw [h1]
  rfl

/-! ### The management link -/

/-- With the link idle a start ends no frame. -/
theorem endFrame_idle {s : State} (h : s.linkIdle) : s.endFrame = s := by
  unfold State.endFrame
  rw [show s.mgmt.receiver = .idle from h]

/-- A management command with the link open runs. -/
theorem byFrame_open {s : State} (h : s.linkOpen) (i : Instr) : s.byFrame i = s.runCommand i := by
  unfold State.byFrame
  rw [if_neg h.1, endFrame_idle h.2]

/-- A management command in OFF does nothing. -/
theorem byFrame_off {s : State} (h : s.power.device = .off) (i : Instr) : s.byFrame i = s := by
  unfold State.byFrame
  rw [if_pos h]

end Sys2Proof.Machine
end

