-- ==== Sys2Proof/Tests/Slice0.lean ====
section
/-! SUPPORT. Tests: the well-formedness checks, the check and figures worked in the spec, and, for each
statement, a state and operands that meet its hypotheses (`witness_…`), with what one step then does. -/

namespace Sys2Proof.Tests

/-! One test is checked at a time: side by side, the checks of these states would take twice the memory. -/

set_option Elab.async false

open Sys2Proof.Machine

/-! ### States the tests are made on -/

/-- READY with a running meter, a good credit figure, a JOURNAL window on pages 0 to 15, a BLOCK window
on pages 16 to 19, and source 7 mapped to stream 3. -/
def ready : State :=
  { State.reset with
    power := ⟨.ready, none, .none, .none, false, 0, none⟩
    meter := { Meter.por with mode := .running ⟨0, 100, 8000, 40⟩, credit := 100, stale := false }
    store := { State.reset.store with op := .idle }
    cls := ⟨(Classifier.por.windows.set 0 ⟨true, .journal, 0, 16⟩).set 1 ⟨true, .block, 16, 4⟩,
      Classifier.por.sourceMap.set 7 (some 3)⟩ }

/-- A state with stream 3 in a state, with a count of writes in flight. -/
def withStream3 (st : StreamState) (inFlight : Nat) (s : State) : State :=
  { s with epochs := s.epochs.withStream 3 { Stream.por with
      state := st, epoch := 42#16, inFlight := inFlight, age := .running 0 } }

/-- A working entry of stream 3's epoch 42. -/
def entry3 (i : Nat) (l : LineAddr) (body : EntryBody) : Entry :=
  ⟨i, l, 3, 42#16, 5#32, body, 0, 0, 0⟩

/-- The journal holds entries. -/
def withEntries (l : List Entry) (s : State) : State := { s with journal := ⟨l, 9#32⟩ }

/-- A tag has a state. -/
def withTag (t : Nat) (x : Tag) (s : State) : State := { s with port := s.port.withTag t x }

/-- Held items. -/
def withHeld (l : List HeldItem) (s : State) : State := { s with wc := ⟨l, false⟩ }

/-- Another device state. -/
def inDevice (d : DeviceState) (x : Option InitStep) (ph : DrainPhase) (s : State) : State :=
  { s with power := { s.power with device := d, initStep := x, phase := ph } }

/-- The pair of source 7 and a request number. -/
def pair (n : Nat) : Pair := ⟨7, BitVec.ofNat 8 n⟩

/-- An ordinary write of source 7. -/
def write (n : Nat) (l : LineAddr) : WriteReq := ⟨pair n, l, 1#64, zeroBlock, .none⟩

/-- A marker of source 7. -/
def marker (n : Nat) (m : Mark) : WriteReq := ⟨pair n, 0#34, 0#64, zeroBlock, m⟩

/-- An event record. -/
def anEvent : EventRec := ⟨.initDone, none, none, none, none, .initDone ⟨.none, none, .none⟩⟩

/-- The state after a command. -/
def after (c : Instr) (s : State) : State :=
  match exec c s with
  | .next t => t
  | .fault _ | .refused _ => s

/-! ### Well-formed commands -/

theorem test_wf_expiry_of_no_tag : Instr.wf (.responseLimitExpiry 48#6) = false := by decide
theorem test_wf_expiry_of_last_tag : Instr.wf (.responseLimitExpiry 47#6) = true := by decide
theorem test_wf_read_frame_with_write_address : Instr.wf (.readFrame 0xB8#8 [] true) = false := by decide
theorem test_wf_request_frame_with_read_address : Instr.wf (.requestFrame 0xB9#8 [] true) = false := by
  decide

/-- No row of the table gives bits, so no word spells a command (LOG 26). -/
theorem test_decode_none : decodeTableWord 8 0 = none := by decide

/-! ### Figures worked in the spec -/

/-- R167's check over B8h 01h 01h 00h, the STATUS request of chapter 10. -/
theorem test_crc_status_request : crc8 [0xB8#8, 0x01#8, 0x01#8, 0x00#8] = 0x56#8 := by decide +kernel

/-- Table 7-1. -/
theorem test_credit_table_7_1 :
    creditFigure 6500 8000 40 = 0 ∧ creditFigure 8000 8000 40 = 0 ∧ creditFigure 8039 8000 40 = 0
      ∧ creditFigure 8040 8000 40 = 1 ∧ creditFigure 28480 8000 40 = 512
      ∧ creditFigure 65535 8000 40 = 1438 ∧ creditFigure 65535 8000 10 = 4095 := by decide

/-- R132: any half is dropped toward zero. -/
theorem test_zero_mean_toward_zero : zeroMean (-3) 0 = -1 ∧ zeroMean 3 0 = 1 := by decide

/-- R3: newer is judged by age, across the counter's wrap. -/
theorem test_newer_across_wrap :
    (entry3 0 1#34 (.capturing (pair 1))).newerThan 2#32
      { entry3 1 2#34 (.capturing (pair 2)) with sequence := 0xFFFFFFFF#32 } = false
    ∧ ({ entry3 0 1#34 (.capturing (pair 1)) with sequence := 1#32 } : Entry).newerThan 2#32
      { entry3 1 2#34 (.capturing (pair 2)) with sequence := 0xFFFFFFFF#32 } = true := by decide

/-- R12: the lowest FREE entry. -/
theorem test_lowest_free :
    lowestFree 0 [entry3 0 1#34 (.capturing (pair 1)), entry3 2 2#34 (.capturing (pair 2))] = 1 := by
  decide

/-- Table 2-3: a rollback of a COMMITTING epoch answers LOST and closes; of an OPEN one abandons. -/
theorem test_table_2_3 :
    epochJobResult .mark (some .open) 0 = (.closed, .ok)
      ∧ epochJobResult .mark (some .open) 1 = (.halted, .memory)
      ∧ epochJobResult .mgmt (some .committing) 0 = (.closed, .lost)
      ∧ epochJobResult .aged (some .open) 0 = (.abandoned, .lost)
      ∧ epochJobResult .drain (some .open) 0 = (.closed, .lost) := by decide

/-- R180: an erased slot, a sealed record and a disturbed one. -/
theorem test_judge_slots :
    judgeSlot erasedBlock = .erased ∧ judgeSlot zeroBlock = .invalid
      ∧ judgeSlot (endSlot 7#32 1 2 3 4) = .valid := by decide +kernel

/-- Table 11-1: codes of the bus fields, and the kind of a read and of a write on the memory bus. -/
theorem test_bus_field_codes :
    [Mark.none, .commit, .abort, .reserved].map (·.code) = [0#2, 1#2, 2#2, 3#2]
      ∧ [WriteStatus.ok, .refused, .memory, .lost].map (·.code) = [0#2, 1#2, 2#2, 3#2]
      ∧ [ReadStatus.ok, .memory].map (·.code) = [0#1, 1#1]
      ∧ [MemStatus.ok, .error].map (·.code) = [0#1, 1#1]
      ∧ ([0#2, 1#2, 2#2, 3#2].map fun c => (Mark.ofCode c).code) = [0#2, 1#2, 2#2, 3#2]
      ∧ ([0#1, 1#1].map fun c => (MemStatus.ofCode c).code) = [0#1, 1#1]
      ∧ (⟨63#6, 0#34, none⟩ : BusRequest).kindCode = 0#1
      ∧ (⟨0#6, 0#34, some (0#64, zeroBlock)⟩ : BusRequest).kindCode = 1#1 := by decide +kernel

/-! ### Witnesses: the queue and what every step keeps -/

/-- One waiting command, in a state that is safe. -/
def waiting : State := { ready with pending := [.hostReadRequest ⟨pair 1, 5#34⟩] }

theorem witness_EmptyQueue : ready.pending = [] := by decide

theorem witness_EveryCommandTaken : ready.deviceOk ∧ ready.port.reservedOk := by decide +kernel

theorem witness_StepKeeps :
    waiting.safe ∧ step waiting = .next (after (.hostReadRequest ⟨pair 1, 5#34⟩) ready) := by
  constructor
  · decide +kernel
  · rfl

/-- In DRAIN, phase SETTLING, with a read of source 7 unanswered on tag 0. -/
def draining : State :=
  withTag 0 (.inUse (.hostRead (pair 1) 5#34) 0 20)
    { inDevice .drain none .settling ready with
      host := { ready.host with readSlots := [⟨⟨pair 1, 5#34⟩, false, false⟩] } }

/-- SPENT with every condition of leaving it but the supply. -/
def spent : State :=
  { inDevice .spent none .none ready with pins := ⟨false, true, true⟩ }

theorem witness_DrainOnlyLowers :
    draining.deviceOk ∧ draining.port.reservedOk ∧ draining.power.device = .drain
      ∧ spent.deviceOk ∧ spent.port.reservedOk ∧ spent.power.device = .spent
      ∧ (after .supplyTrip draining).entryCount = 0 := by decide +kernel

theorem witness_DataPathFrame :
    (Instr.hostReadRequest ⟨pair 1, 5#34⟩).isDataPath = true ∧ ready.power.device ≠ .drain := by decide

/-! ### Witnesses: host port and write control -/

/-- READY with every slot of both kinds held. -/
def fullPort : State :=
  { ready with host := ⟨List.replicate 32 ⟨write 1 5#34, false, false⟩,
      List.replicate 32 ⟨⟨pair 1, 5#34⟩, false, false⟩, [], []⟩ }

theorem witness_RequestsWait :
    spent.power.device ≠ .ready ∧ fullPort.busEmpty ∧ fullPort.host.writeSlots.length = 32
      ∧ fullPort.host.readSlots.length = 32
      ∧ (after (.hostWriteRequest (write 2 5#34)) spent).bus.writes = [write 2 5#34] := by
  decide +kernel

/-- READY with a write of pair 1 outstanding. -/
def oneOutstanding : State :=
  { ready with host := ⟨[⟨write 1 5#34, false, false⟩], [⟨⟨pair 1, 5#34⟩, false, false⟩], [], []⟩ }

theorem witness_WriteRefusedAtOnce :
    oneOutstanding.hostOpen ∧ oneOutstanding.host.writeSlots.length < 32
      ∧ pair 1 ∈ oneOutstanding.host.writePairs
      ∧ { write 2 5#34 with mark := .reserved }.mark = .reserved
      ∧ { marker 2 .commit with mask := 1#64 }.mask ≠ 0#64
      ∧ ready.cls.streamOf 8 = none
      ∧ ready.cls.kindAt (write 2 1024#34).line = some .block
      ∧ ready.cls.kindAt (write 2 1023#34).line = some .journal
      ∧ (after (.hostWriteRequest (write 2 1279#34)) ready).host.writeResponses
          = [⟨pair 2, .refused, false⟩] := by decide +kernel

theorem witness_NullAndPassThroughWrites :
    ready.canTakeWrite (pair 2) ∧ ready.canIssue 0 ∧ (write 2 1280#34).mark = .none
      ∧ (write 2 1280#34).mask ≠ 0#64 ∧ ready.cls.kindAt 1280#34 = none
      ∧ { write 2 5#34 with mask := 0#64 }.mask = 0#64
      ∧ (after (.hostWriteRequest (write 2 1280#34)) ready).port.issued
          = [⟨0, 1280#34, some (1#64, zeroBlock)⟩] := by decide +kernel

/-- Every general tag is in use, and requests wait. -/
def crowded (q : List Request) (s : State) : State :=
  { s with port := { s.port with
      queue := q
      tags := Vector.ofFn fun i : Fin 48 =>
        if i.val < 44 then .inUse (.hostRead (pair 1) 5#34) 0 20 else s.port.tags[i] } }

theorem witness_NullAndPassThroughWrites_queued :
    (crowded [.capture 1 9#34] ready).canTakeWrite (pair 2) ∧ (crowded [.capture 1 9#34] ready).queueWaits
      ∧ (crowded [.capture 1 9#34] ready).cls.kindAt 1280#34 = none
      ∧ (after (.hostWriteRequest (write 2 1280#34)) (crowded [.capture 1 9#34] ready)).port.queue
        = [.capture 1 9#34, .passWrite (pair 2) 1280#34] := by decide +kernel

/-- A held COMMIT marker of stream 3. -/
def heldMarker (n : Nat) : HeldItem := ⟨pair n, .marker .commit, 3, none, .epochWait, 0⟩

theorem witness_MarkerOnClosedStream :
    ready.canTakeWrite (pair 2) ∧ ready.cls.marks (marker 2 .abort) 3 .abort
      ∧ (∀ x ∈ ready.wc.hold, x.pair ≠ pair 2) ∧ (ready.stream 3).state = .closed
      ∧ (withHeld [heldMarker 4] ready).heldItem? (pair 4) = some (heldMarker 4)
      ∧ (heldMarker 4).epoch = none
      ∧ (after (.hostWriteRequest (marker 2 .abort)) ready).host.writeResponses
          = [⟨pair 2, .ok, false⟩] := by decide +kernel

theorem witness_FirstWriteOpensEpoch_open :
    let s := withStream3 .open 0 ready
    s.canTakeWrite (pair 2) ∧ s.cls.journals (write 2 5#34) 3 ∧ s.lineClear (write 2 5#34)
      ∧ (s.stream 3).state = .open ∧ s.journal.atLine? 5#34 = none ∧ s.hasRoom 3 ∧ s.canIssue 0
      ∧ (crowded [.capture 1 9#34] s).canTakeWrite (pair 2) ∧ (crowded [.capture 1 9#34] s).queueWaits
      ∧ (after (.hostWriteRequest (write 2 5#34)) s).journal.entries
        = [⟨0, 5#34, 3, 42#16, 0#32, .capturing (pair 2), 0, 0, 0⟩]
      ∧ (after (.hostWriteRequest (write 2 5#34)) (crowded [.capture 1 9#34] s)).port.queue
        = [.capture 1 9#34, .capture 0 5#34] := by decide +kernel

theorem witness_FirstWriteOpensEpoch :
    ready.canTakeWrite (pair 2) ∧ ready.cls.journals (write 2 5#34) 3
      ∧ ready.lineClear (write 2 5#34) ∧ (ready.stream 3).state = .closed
      ∧ ready.journal.atLine? 5#34 = none ∧ ready.hasRoom 3 ∧ ready.canIssue 0
      ∧ (after (.hostWriteRequest (write 2 5#34)) ready).port.issued = [⟨0, 5#34, none⟩] := by
  decide +kernel

/-- Stream 3 OPEN with a LIVE entry 0 for line 5 and a CAPTURING entry 1 for line 6. -/
def openLive (inFlight : Nat) : State :=
  withStream3 .open inFlight
    (withEntries [entry3 0 5#34 (.holding .live zeroBlock), entry3 1 6#34 (.capturing (pair 1))] ready)

theorem witness_WriteForwardedToLiveEntry :
    (openLive 0).canTakeWrite (pair 2) ∧ (openLive 0).cls.journals (write 2 5#34) 3
      ∧ (openLive 0).lineClear (write 2 5#34) ∧ ((openLive 0).stream 3).state = .open
      ∧ (openLive 0).journal.atLine? 5#34 = some (entry3 0 5#34 (.holding .live zeroBlock))
      ∧ (42#16 : EpochNo) = ((openLive 0).stream 3).epoch ∧ (openLive 0).canIssue 0
      ∧ ((after (.hostWriteRequest (write 2 5#34)) (openLive 0)).stream 3).inFlight = 1 := by
  decide +kernel

theorem witness_RequestByStreamState :
    ∀ st ∈ [StreamState.committing, .rolling, .abandoned, .halted],
      let s := withStream3 st 1 ready
      s.canTakeWrite (pair 2) ∧ s.cls.journals (write 2 5#34) 3 ∧ s.lineClear (write 2 5#34)
        ∧ s.cls.marks (marker 2 .commit) 3 .commit ∧ (s.stream 3).state = st ∧ s.wc.hold = [] := by
  decide +kernel

theorem test_abandoned_marker_closes :
    ((after (.hostWriteRequest (marker 2 .commit)) (withStream3 .abandoned 0 ready)).stream 3).state
      = .closed := by decide +kernel

/-- No credit at all. -/
def noCredit (p : HoldPolicy) : State :=
  let s := withStream3 .open 0 { ready with meter := { ready.meter with credit := 0 } }
  { s with epochs := s.epochs.withStream 3 { s.stream 3 with policy := p } }

/-- A LIVE entry of stream 5 for line 7. -/
def entry5 : Entry := { entry3 2 7#34 (.holding .live zeroBlock) with stream := 5 }

/-- Stream 3 CLOSED under a policy, with no capacity and stream 5's entry for line 7. -/
def closedFull (p : HoldPolicy) : State :=
  let s := withEntries [entry5] (noCredit p)
  { s with epochs := s.epochs.withStream 3 { s.stream 3 with state := .closed } }

theorem witness_WriteNotAdmitted_closed :
    ∀ x ∈ [(HoldPolicy.wait, 9#34, ([] : List WriteResponse), false), (.wait, 7#34, [], false),
        (.refuse, 9#34, [⟨pair 2, .refused, false⟩], true), (.refuse, 7#34, [⟨pair 2, .refused, false⟩], true)],
      let s := closedFull x.1
      let t := after (.hostWriteRequest (write 2 x.2.1)) s
      s.canTakeWrite (pair 2) ∧ s.cls.journals (write 2 x.2.1) 3 ∧ s.lineClear (write 2 x.2.1)
        ∧ (s.stream 3).state = .closed ∧ ¬ s.hasRoom 3 ∧ s.journal.atLine? 9#34 = none
        ∧ s.journal.atLine? 7#34 = some entry5
        ∧ (t.stream 3).state = .open ∧ (t.stream 3).epoch = 43#16 ∧ (t.stream 3).doomed = x.2.2.2
        ∧ t.host.writeResponses = x.2.2.1 := by decide +kernel

theorem witness_WriteNotAdmitted :
    (∀ p ∈ [HoldPolicy.wait, .refuse],
      (noCredit p).canTakeWrite (pair 2) ∧ (noCredit p).cls.journals (write 2 9#34) 3
        ∧ (noCredit p).lineClear (write 2 9#34) ∧ ((noCredit p).stream 3).state = .open
        ∧ (noCredit p).journal.atLine? 9#34 = none ∧ ¬ (noCredit p).hasRoom 3
        ∧ (withEntries [entry5] (noCredit p)).journal.atLine? 7#34 = some entry5
        ∧ entry5.stream ≠ 3)
      ∧ (openLive 0).journal.atLine? 6#34 = some (entry3 1 6#34 (.capturing (pair 1)))
      ∧ ((after (.hostWriteRequest (write 2 9#34)) (noCredit .refuse)).stream 3).doomed = true
      ∧ (after (.hostWriteRequest (write 2 9#34)) (noCredit .wait)).heldCount 3 = 1 := by
  decide +kernel

/-- A write of source 7 to line 5 is held, and the LIVE entry of the line is there again. -/
def heldBefore : State := withHeld [⟨pair 1, .write 5#34, 3, some 42#16, .admission, 0⟩] (openLive 0)

theorem witness_WriteNotAdmitted_lineOrder :
    heldBefore.canTakeWrite (pair 2) ∧ heldBefore.cls.journals (write 2 5#34) 3
      ∧ (heldBefore.stream 3).state = .open ∧ (∀ y ∈ heldBefore.wc.hold, y.pair ≠ pair 2)
      ∧ (∀ x ∈ heldBefore.wc.hold, x.line? = some 5#34 ∧ x.pair.source = (pair 2).source)
      ∧ (after (.hostWriteRequest (write 2 5#34)) heldBefore).wc.hold.map (·.reason)
        = [.admission, .lineOrder] := by decide +kernel

/-- Stream 3 OPEN with one LIVE entry and nothing in flight. -/
def quietEpoch : State :=
  withStream3 .open 0 (withEntries [entry3 0 5#34 (.holding .live zeroBlock)] ready)

theorem witness_QuietEpochCommits :
    quietEpoch.canTakeWrite (pair 2) ∧ quietEpoch.cls.marks (marker 2 .commit) 3 .commit
      ∧ quietEpoch.wc.hold = [] ∧ quietEpoch.journal.canonical ∧ quietEpoch.withinCeiling
      ∧ quietEpoch.port.untiedFrom 0 ∧ (quietEpoch.stream 3).state = .open
      ∧ (quietEpoch.stream 3).doomed = false ∧ (quietEpoch.stream 3).inFlight = 0
      ∧ quietEpoch.hasCapturing 3 42#16 = false
      ∧ (after (.hostWriteRequest (marker 2 .commit)) quietEpoch).journal.entries = [] := by
  decide +kernel

/-- Stream 5 OPEN in its epoch 7, with a write of pair 4 held for a reason on line 5, which stream 3's quiet
epoch owns. -/
def quietBesideHeld (r : HoldReason) : State :=
  let s := withHeld [⟨pair 4, .write 5#34, 5, some 7#16, r, 0⟩] quietEpoch
  { s with epochs := s.epochs.withStream 5 { Stream.por with state := .open, epoch := 7#16 } }

theorem witness_QuietEpochCommits_held :
    ∀ r ∈ [HoldReason.conflict, .admission],
      let s := quietBesideHeld r
      s.canTakeWrite (pair 2) ∧ s.cls.marks (marker 2 .commit) 3 .commit ∧ s.journal.canonical
        ∧ s.withinCeiling ∧ s.port.untiedFrom 0 ∧ (s.stream 3).state = .open
        ∧ s.hasCapturing 3 42#16 = false ∧ s.wc.hold = [⟨pair 4, .write 5#34, 5, some 7#16, r, 0⟩]
        ∧ (s.stream 5).state = .open ∧ s.canIssue 0
        ∧ (after (.hostWriteRequest (marker 2 .commit)) s).journal.entries
          = [⟨0, 5#34, 5, 7#16, 9#32, .capturing (pair 4), 0, 0, 0⟩] := by decide +kernel

/-- Five entries of stream 3's epoch, each with the before-image and sequence its age is judged by; entries
1 and 3 hold one sequence. -/
def fiveEntries (st : ImageState) : List Entry :=
  [(0, 3#32), (1, 1#32), (2, 4#32), (3, 1#32), (4, 5#32)].map fun x =>
    { entry3 x.1 (BitVec.ofNat 34 (x.1 + 5)) (.holding st zeroBlock) with sequence := x.2 }

/-- The same entries newest first. -/
def fiveNewestFirst (st : ImageState) : List Entry :=
  [4, 2, 0, 3, 1].filterMap fun i => (fiveEntries st).find? (·.index == i)

/-- Stream 5 is ROLLING, with a job that settles. -/
def rollingBeside (s : State) : State :=
  { s with
    epochs := s.epochs.withStream 5 { Stream.por with state := .rolling, epoch := 7#16, inFlight := 1 }
    engine := { s.engine with queue := [⟨.epoch, 5, 7#16, .line, .settle, [], 0, 0, false⟩] } }

/-- Stream 3 in a state, in each case of `rollsBackTo`: a job ahead, a write in flight, a capture, entries
to restore, none. -/
def ending (st : StreamState) : Nat → State
  | 0 => rollingBeside (withStream3 st 0 ready)
  | 1 => withStream3 st 1 ready
  | 2 => withStream3 st 0 (withEntries [entry3 1 6#34 (.capturing (pair 1))] ready)
  | 3 => withStream3 st 0 (withEntries (fiveEntries .live) ready)
  | _ => withStream3 st 0 ready

/-- Stream 3 has nothing in flight and no capture, and the restore queue is empty. -/
abbrev settledIdle (s : State) : Prop :=
  s.engine.queue = [] ∧ (s.stream 3).inFlight = 0 ∧ s.hasCapturing 3 42#16 = false

/-- The state meets case `i` of `rollsBackTo` for stream 3. -/
def meetsCase (i : Nat) (s : State) : Bool :=
  match i with
  | 0 => decide (s.settles ⟨.epoch, 5, 7#16, .line, .settle, [], 0, 0, false⟩)
  | 1 => decide (s.engine.queue = [] ∧ 0 < (s.stream 3).inFlight)
  | 2 => decide (s.engine.queue = [] ∧ s.hasCapturing 3 42#16 = true)
  | 3 => decide (settledIdle s ∧ s.restoresFree ∧ s.journal.canonical
    ∧ s.journal.selectable (fiveNewestFirst .live) 3 42#16)
  | _ => decide (settledIdle s ∧ (∀ e ∈ s.journal.entries, e.isIn .live = false)
    ∧ s.engine.positions = [] ∧ s.streamFailed 3 = 0)

/-- The phases of the jobs in the restore queue. -/
def phases (s : State) : List JobPhase := s.engine.queue.map (·.phase)

/-- The phases that the cases of `rollsBackTo` end with. -/
def phasesOf : Nat → List JobPhase
  | 0 => [.settle, .queued]
  | 1 | 2 => [.settle]
  | 3 => [.restore]
  | _ => []

theorem witness_MarkerKeptOnOpenStream_rolls :
    ∀ i ∈ List.range 5,
      let s := ending .open i
      let d := { s with epochs := s.epochs.withStream 3 { s.stream 3 with doomed := true } }
      s.canTakeWrite (pair 2) ∧ s.cls.marks (marker 2 .abort) 3 .abort ∧ s.canRoll 3 ∧ meetsCase i s
        ∧ (s.stream 3).state = .open ∧ phases (after (.hostWriteRequest (marker 2 .abort)) s) = phasesOf i
        ∧ (i = 4 → (after (.hostWriteRequest (marker 2 .abort)) s).host.writeResponses
          = [⟨pair 2, .ok, false⟩])
        ∧ d.canTakeWrite (pair 2) ∧ d.cls.marks (marker 2 .commit) 3 .commit ∧ d.wc.hold = []
        ∧ (d.stream 3).state = .open ∧ d.engine.lingerPending = [] ∧ meetsCase i d
        ∧ (i = 4 → (after (.hostWriteRequest (marker 2 .commit)) d).host.writeResponses
          = [⟨pair 2, .lost, false⟩]) := by decide +kernel

theorem witness_MarkerKeptOnOpenStream :
    (openLive 1).canTakeWrite (pair 2) ∧ (openLive 1).wc.hold = []
      ∧ ((openLive 1).stream 3).state = .open ∧ 0 < ((openLive 1).stream 3).inFlight
      ∧ (openLive 1).cls.marks (marker 2 .commit) 3 .commit
      ∧ (openLive 1).cls.marks (marker 2 .abort) 3 .abort ∧ (openLive 1).engineIdle
      ∧ ((after (.hostWriteRequest (marker 2 .abort)) (openLive 1)).stream 3).state = .rolling := by
  decide +kernel

theorem witness_ReadAccepted :
    oneOutstanding.hostOpen ∧ oneOutstanding.host.readSlots.length < 32 ∧ oneOutstanding.canIssue 0
      ∧ pair 2 ∉ oneOutstanding.host.readPairs ∧ pair 1 ∈ oneOutstanding.host.readPairs
      ∧ (after (.hostReadRequest ⟨pair 1, 6#34⟩) oneOutstanding).host.readResponses
          = [⟨pair 1, .memory, zeroBlock, true⟩] := by decide +kernel

theorem witness_ReadAccepted_queued :
    let s := crowded [.capture 1 9#34] oneOutstanding
    s.hostOpen ∧ s.host.readSlots.length < 32 ∧ s.queueWaits ∧ pair 2 ∉ s.host.readPairs
      ∧ (after (.hostReadRequest ⟨pair 2, 6#34⟩) s).port.queue
        = [.capture 1 9#34, .hostRead (pair 2) 6#34] := by decide +kernel

/-- Both channels hold a response for an answered request. -/
def answered : State :=
  { ready with host := ⟨[⟨write 1 5#34, false, true⟩], [⟨⟨pair 1, 5#34⟩, false, true⟩],
      [⟨pair 1, .ok, false⟩], [⟨pair 1, .ok, zeroBlock, false⟩]⟩ }

theorem witness_ResponseTaken :
    answered.quiet ∧ answered.busEmpty ∧ answered.host.writeResponses = [⟨pair 1, .ok, false⟩]
      ∧ answered.host.readResponses = [⟨pair 1, .ok, zeroBlock, false⟩]
      ∧ ready.quiet ∧ ready.host.writeResponses = [] ∧ ready.host.readResponses = []
      ∧ (after (.hostResponseTaken .write) answered).host.writeSlots = []
      ∧ (after (.hostResponseTaken .read) answered).host.readSlots = [] := by decide +kernel

/-- READY with every slot of both kinds held, the oldest of each answered, and requests waiting. -/
def fullAnswered (writes : List WriteReq) (reads : List ReadReq) : State :=
  { ready with
    bus := ⟨writes, reads⟩
    host := ⟨⟨write 9 5#34, false, true⟩ :: List.replicate 31 ⟨write 1 5#34, false, false⟩,
      ⟨⟨pair 9, 5#34⟩, false, true⟩ :: List.replicate 31 ⟨⟨pair 1, 5#34⟩, false, false⟩,
      [⟨pair 9, .ok, false⟩], [⟨pair 9, .ok, zeroBlock, false⟩]⟩ }

theorem witness_ResponseTaken_waiting :
    (fullAnswered [write 2 5#34, write 3 5#34] []).noPassOwed
      ∧ (fullAnswered [] [⟨pair 2, 5#34⟩]).host.readSlots.length = 32
      ∧ (fullAnswered [write 2 5#34, write 3 5#34] []).host.writeSlots.length = 32
      ∧ (after (.hostResponseTaken .write) (fullAnswered [write 2 5#34, write 3 5#34] [])).bus.writes
        = [write 3 5#34]
      ∧ (after (.hostResponseTaken .read) (fullAnswered [] [⟨pair 2, 5#34⟩])).host.readSlots.length
        = 32 := by decide +kernel

/-- ROLLING_BACK with all but one answered write over. -/
def lastSlot : State :=
  { inDevice .drain none .rollingBack ready with
    host := ⟨[⟨write 9 5#34, false, true⟩], [], [⟨pair 9, .ok, false⟩], []⟩ }

theorem witness_ResponseTaken_drain :
    draining.power.device = .drain ∧ draining.power.phase = .settling ∧ draining.noPassOwed
      ∧ ⟨⟨pair 1, 5#34⟩, false, false⟩ ∈ draining.host.readSlots
      ∧ lastSlot.power.device = .drain ∧ lastSlot.power.phase = .rollingBack ∧ lastSlot.noPassOwed
      ∧ lastSlot.engineFinished ∧ lastSlot.port.nothingOutstanding ∧ lastSlot.store.usable = true
      ∧ lastSlot.store.op = .idle
      ∧ (after (.hostResponseTaken .write) lastSlot).power.phase = .recording := by decide +kernel

/-! ### Witnesses: memory port and rollback engine -/

/-- A pass-through write waits in the issue queue. -/
def oneQueued : State :=
  { oneOutstanding with port := { ready.port with queue := [.passWrite (pair 1) 1280#34] } }

theorem witness_IssueRequests :
    oneQueued.port.queue = [.passWrite (pair 1) 1280#34]
      ∧ (Request.passWrite (pair 1) 1280#34).isRestore = false
      ∧ oneQueued.port.freeGeneral? = some 0 ∧ (after .issueRequest oneQueued).port.queue = [] := by
  decide +kernel

/-- Two host reads, a restore write and a capture wait in the issue queue. -/
def fourQueued (reserved : Bool) : State :=
  let s := { ready with port := { ready.port with queue :=
    [.hostRead (pair 1) 5#34, .restore 0 6#34 false, .hostRead (pair 2) 7#34, .capture 1 9#34] } }
  if reserved then s else
    [44, 45, 46, 47].foldl (fun s t => withTag t (.inUse (.restore 3 8#34 false) 0 20) s) s

theorem witness_IssueRequests_order :
    (fourQueued true).port.freeReserved? = some 44 ∧ (fourQueued false).port.freeReserved? = none
      ∧ (fourQueued false).port.freeGeneral? = some 0
      ∧ (Request.restore 0 6#34 false).isRestore = true
      ∧ (after .issueRequest (fourQueued true)).port.issued.map (·.tag) = [44#6, 0#6, 1#6, 2#6]
      ∧ (after .issueRequest (fourQueued false)).port.issued.map (·.line)
        = [5#34, 6#34, 7#34, 9#34] := by decide +kernel

/-- A poisoned tag tied to entry 0, which has one stray. -/
def strayed : State :=
  withTag 2 (.poisoned (some ⟨0, 5#34⟩)) (withTag 3 (.poisoned none)
    (withEntries [{ entry3 0 5#34 (.holding .live zeroBlock) with strays := 1 }] ready))

theorem witness_ResponseOnTagNotInUse :
    strayed.quiet ∧ strayed.port.queue = [] ∧ strayed.port.tags[(0#6).toNat]? = some .free
      ∧ 48 ≤ (48#6).toNat ∧ strayed.port.tags[(3#6).toNat]? = some (.poisoned none)
      ∧ strayed.port.tags[(2#6).toNat]? = some (.poisoned (some ⟨0, 5#34⟩))
      ∧ strayed.entry? 0 = some { entry3 0 5#34 (.holding .live zeroBlock) with strays := 1 }
      ∧ ((after (.memoryResponse 2#6 .ok zeroBlock) strayed).entry? 0).map (·.strays) = some 0 := by
  decide +kernel

/-- Requests wait with every general tag busy, and with every reserved tag busy or free; one is poisoned. -/
def poisonedFull (t : Nat) (q : List Request) (busy : Bool) : State :=
  let s := crowded q ready
  withTag t (.poisoned none) (if busy then
    [44, 45, 46, 47].foldl (fun s t => withTag t (.inUse (.restore 3 8#34 false) 0 20) s) s else s)

theorem witness_ResponseOnTagNotInUse_queued :
    (∀ b ∈ [true, false],
      let s := poisonedFull 3 [.capture 1 9#34, .capture 2 8#34] b
      s.quiet ∧ s.port.tags[(3#6).toNat]? = some (.poisoned none) ∧ s.port.freeGeneral? = none
        ∧ s.queueWaits ∧ (after (.memoryResponse 3#6 .ok zeroBlock) s).port.queue = [.capture 2 8#34])
    ∧ let s := poisonedFull 46 [.capture 1 9#34, .restore 0 6#34 false, .capture 2 8#34] true
      s.quiet ∧ s.port.tags[(46#6).toNat]? = some (.poisoned none) ∧ s.port.freeGeneral? = none
        ∧ s.port.freeReserved? = none ∧ (Request.capture 1 9#34).isRestore = false
        ∧ (Request.restore 0 6#34 false).isRestore = true ∧ 44 ≤ (46#6).toNat
        ∧ (after (.memoryResponse 46#6 .ok zeroBlock) s).port.queue
          = [.capture 1 9#34, .capture 2 8#34] := by decide +kernel

/-- Entry 0 is LINGER with some strays, and four or no restore positions are held. -/
def lingering (strays : Nat) (full : Bool) : State :=
  let s := withTag 2 (.poisoned (some ⟨0, 5#34⟩))
    (withEntries [{ entry3 0 5#34 (.holding .linger zeroBlock) with strays := strays }] ready)
  { s with engine := { s.engine with
    positions := if full then [⟨5, false⟩, ⟨6, false⟩, ⟨7, false⟩, ⟨8, true⟩] else [] } }

theorem witness_ResponseOnTagNotInUse_linger :
    (lingering 2 false).entry? 0
        = some { entry3 0 5#34 (.holding .linger zeroBlock) with strays := 2 }
      ∧ (lingering 1 true).engine.positions.length = 4 ∧ (lingering 1 true).engine.lingerPending = []
      ∧ (lingering 1 false).engine.queue = [] ∧ (lingering 1 false).journal.canonical
      ∧ ((lingering 1 false).port.withTag 2 .free).freeReserved? = some 44
      ∧ (after (.memoryResponse 2#6 .ok zeroBlock) (lingering 1 true)).engine.lingerPending = [0]
      ∧ (after (.memoryResponse 2#6 .ok zeroBlock) (lingering 1 false)).port.issued
        = [⟨44#6, 5#34, some (BitVec.allOnes 64, zeroBlock)⟩] := by decide +kernel

/-- A read and a pass-through write stand on tags 0 and 1. -/
def twoInUse : State :=
  withTag 0 (.inUse (.hostRead (pair 1) 5#34) 0 20)
    (withTag 1 (.inUse (.passWrite (pair 1) 5#34) 0 20) oneOutstanding)

theorem witness_HostRequestAnswered :
    twoInUse.quiet ∧ twoInUse.port.queue = []
      ∧ twoInUse.port.tags[(0#6).toNat]? = some (.inUse (.hostRead (pair 1) 5#34) 0 20)
      ∧ twoInUse.port.tags[(1#6).toNat]? = some (.inUse (.passWrite (pair 1) 5#34) 0 20)
      ∧ (∃ x ∈ twoInUse.host.writeSlots, x.awaits (pair 1) = true)
      ∧ (∃ x ∈ twoInUse.host.readSlots, x.awaits (pair 1) = true)
      ∧ (after (.memoryResponse 1#6 .error zeroBlock) twoInUse).host.writeResponses
          = [⟨pair 1, .memory, false⟩] := by decide +kernel

theorem witness_HostRequestAnswered_queued :
    let s := withTag 1 (.inUse (.passWrite (pair 1) 5#34) 0 20) (crowded [.capture 1 9#34] oneOutstanding)
    s.quiet ∧ s.port.queue = [.capture 1 9#34] ∧ s.queueWaits
      ∧ s.port.tags[(0#6).toNat]? = some (.inUse (.hostRead (pair 1) 5#34) 0 20)
      ∧ s.port.tags[(1#6).toNat]? = some (.inUse (.passWrite (pair 1) 5#34) 0 20)
      ∧ (after (.memoryResponse 1#6 .ok zeroBlock) s).port.issued = [⟨1#6, 9#34, none⟩] := by
  decide +kernel

/-- Entry 1 is CAPTURING, its capture read on tag 0. -/
def capturing : State :=
  withTag 0 (.inUse (.capture 1 6#34) 0 20)
    { openLive 0 with host := { ready.host with writeSlots := [⟨write 1 6#34, false, false⟩] } }

theorem witness_CaptureAnswered :
    capturing.noPassOwed ∧ capturing.power.device = .ready ∧ capturing.port.queue = []
      ∧ capturing.wc.hold = []
      ∧ capturing.port.tags[(0#6).toNat]? = some (.inUse (.capture 1 6#34) 0 20)
      ∧ capturing.entry? 1 = some (entry3 1 6#34 (.capturing (pair 1)))
      ∧ (capturing.stream 3).epoch = 42#16 ∧ (0#6).toNat < 44 ∧ (capturing.stream 3).state = .open
      ∧ capturing.withinCeiling ∧ capturing.port.untiedFrom 0
      ∧ ((after (.memoryResponse 0#6 .ok zeroBlock) capturing).stream 3).inFlight = 1
      ∧ (after (.memoryResponse 0#6 .error zeroBlock) capturing).entryCount = 1 := by decide +kernel

/-- A write of pair 4 waits for the capture of entry 1. -/
def captureWaited : State :=
  withHeld [⟨pair 4, .write 6#34, 3, some 42#16, .captureWait, 0⟩] capturing

theorem witness_CaptureAnswered_waiting :
    captureWaited.noPassOwed ∧ captureWaited.port.untiedFrom 0 ∧ captureWaited.withinCeiling
      ∧ (captureWaited.port.withTag 0 .free).freeGeneral? = some 0
      ∧ (((captureWaited.port.withTag 0 .free).withIssued 0
        (.forward (pair 1) 6#34 1 3 42#16) 0 none).freeGeneral?) = some 1
      ∧ ((after (.memoryResponse 0#6 .ok zeroBlock) captureWaited).stream 3).inFlight = 2
      ∧ (after (.memoryResponse 0#6 .error zeroBlock) captureWaited).wc.hold = [] := by decide +kernel

/-- The capture of entry 1 ends too late: stream 3 is ROLLING with a write in flight, or the part is in
SETTLING. -/
def captureTooLate (drain : Bool) : State :=
  let s := if drain then inDevice .drain none .settling capturing else capturing
  let st := if drain then StreamState.committing else .rolling
  { s with
    host := { s.host with readSlots := [⟨⟨pair 5, 5#34⟩, false, false⟩] }
    epochs := s.epochs.withStream 3 { s.stream 3 with state := st, inFlight := 1 }
    engine := { s.engine with queue :=
      if drain then [] else [⟨.epoch, 3, 42#16, .line, .settle, [], 0, 0, false⟩] } }

theorem witness_CaptureAnswered_late :
    ∀ b ∈ [true, false],
      let s := captureTooLate b
      s.noPassOwed ∧ s.wc.hold = [] ∧ s.withinCeiling ∧ s.port.untiedFrom 0 ∧ s.engine.lingerPending = []
        ∧ s.power.device = (if b then .drain else .ready)
        ∧ (s.stream 3).state = (if b then .committing else .rolling) ∧ 0 < (s.stream 3).inFlight
        ∧ (after (.memoryResponse 0#6 .ok zeroBlock) s).host.writeResponses
          = [⟨pair 1, .lost, false⟩] := by decide +kernel

/-- A write forwarded to entry 0 stands on tag 0. -/
def forwarded : State :=
  withTag 0 (.inUse (.forward (pair 1) 5#34 0 3 42#16) 0 20)
    { openLive 1 with host := { ready.host with writeSlots := [⟨write 1 5#34, false, false⟩] } }

theorem witness_ForwardedWriteAnswered :
    forwarded.quiet ∧ forwarded.engineIdle ∧ forwarded.port.queue = []
      ∧ (forwarded.stream 3).state = .open
      ∧ forwarded.port.tags[(0#6).toNat]? = some (.inUse (.forward (pair 1) 5#34 0 3 42#16) 0 20)
      ∧ ((after (.memoryResponse 0#6 .error zeroBlock) forwarded).stream 3).doomed = true := by
  decide +kernel

/-- Stream 3 is COMMITTING with its last write in flight, its kept marker under pair 8, and items held. -/
def committingLast (held : List HeldItem) : State :=
  let s := withHeld held (withEntries [entry3 0 5#34 (.holding .live zeroBlock)] forwarded)
  let k : KeptMarker := ⟨.commit, pair 8⟩
  { s with
    host := { s.host with writeSlots := s.host.writeSlots
      ++ [⟨marker 8 .commit, false, false⟩, ⟨marker 4 .commit, false, false⟩] }
    epochs := s.epochs.withStream 3 { s.stream 3 with
      state := .committing, inFlight := 1, kept := some k } }

theorem witness_ForwardedWriteAnswered_commits :
    (∀ l ∈ [[], [heldMarker 4], [⟨pair 4, HeldKind.write 5#34, 3, none, .epochWait, 0⟩]],
      let s := committingLast l
      s.quiet ∧ s.engineIdle ∧ s.port.queue = [] ∧ (s.stream 3).state = .committing
        ∧ (s.stream 3).doomed = false ∧ (s.stream 3).kept = some ⟨.commit, pair 8⟩
        ∧ (s.stream 3).inFlight = 1 ∧ s.journal.canonical ∧ s.withinCeiling ∧ s.port.untiedFrom 0
        ∧ s.hasCapturing 3 42#16 = false ∧ s.power.device = .ready ∧ s.wc.hold = l
        ∧ (s.port.withTag 0 .free).freeGeneral? = some 0
        ∧ (after (.memoryResponse 0#6 .ok zeroBlock) s).wc.hold = [])
    ∧ (after (.memoryResponse 0#6 .ok zeroBlock) (committingLast [heldMarker 4])).host.writeResponses
      = [⟨pair 1, .ok, false⟩, ⟨pair 8, .ok, false⟩, ⟨pair 4, .ok, false⟩]
    ∧ ((after (.memoryResponse 0#6 .ok zeroBlock)
      (committingLast [⟨pair 4, .write 5#34, 3, none, .epochWait, 0⟩])).stream 3).epoch = 43#16 := by
  decide +kernel

/-- Stream 3 in a state, the last write of its epoch on tag 0 as `committingLast` has it, doomed or not, in
READY or in SETTLING with a read unanswered. -/
def lastAnswer (st : StreamState) (doomed drain : Bool) (queue : List Job) : State :=
  let s := committingLast []
  let s := if drain then inDevice .drain none .settling s else s
  { s with
    host := { s.host with readSlots := [⟨⟨pair 5, 5#34⟩, false, false⟩] }
    journal := s.journal.updEntry 0 fun e => { e with inFlight := 1 }
    engine := { s.engine with queue := queue }
    epochs := s.epochs.withStream 3 { s.stream 3 with state := st, doomed := doomed } }

/-- The one entry that `lastAnswer` leaves to restore. -/
def toRestore : List Entry := [entry3 0 5#34 (.holding .live zeroBlock)]

/-- The settling job of stream 3's epoch. -/
def settlingJob : Job := ⟨.epoch, 3, 42#16, .doomed, .settle, [], 0, 0, false⟩

theorem witness_ForwardedWriteAnswered_doomed :
    (∀ x ∈ [(true, true), (true, false), (false, true), (false, false)],
      let s := lastAnswer .committing x.1 x.2 []
      s.noPassOwed ∧ s.engine.lingerPending = [] ∧ s.engine.queue = [] ∧ s.port.queue = []
        ∧ s.wc.hold = [] ∧ (s.stream 3).state = .committing ∧ (s.stream 3).inFlight = 1
        ∧ (s.stream 3).doomed = x.1 ∧ s.hasCapturing 3 42#16 = false ∧ s.withinCeiling ∧ s.port.untiedFrom 0
        ∧ s.restoresFree ∧ s.journal.canonical
        ∧ (s.journal.updEntry 0 fun e => { e with inFlight := e.inFlight - 1 }).selectable
          toRestore 3 42#16)
    ∧ ((after (.memoryResponse 0#6 .ok zeroBlock) (lastAnswer .committing true false [])).stream 3).origin
      = some .committing
    ∧ (after (.memoryResponse 0#6 .error zeroBlock) (lastAnswer .committing false true [])).engine.queue
      = []
    ∧ (after (.memoryResponse 0#6 .ok zeroBlock) (lastAnswer .committing false true [])).power.commits
      = 1 := by decide +kernel

theorem witness_ForwardedWriteAnswered_settles :
    let s := lastAnswer .rolling true false [settlingJob]
    s.noPassOwed ∧ s.power.device ≠ .drain ∧ (s.stream 3).state = .rolling ∧ (s.stream 3).inFlight = 1
      ∧ s.engine.queue = [settlingJob] ∧ s.hasCapturing 3 42#16 = false ∧ s.restoresFree
      ∧ (s.journal.updEntry 0 fun e => { e with inFlight := e.inFlight - 1 }).selectable toRestore 3 42#16
      ∧ (after (.memoryResponse 0#6 .ok zeroBlock) s).port.issued
        = [⟨44#6, 5#34, some (BitVec.allOnes 64, zeroBlock)⟩] := by decide +kernel

/-- The job of stream 3's epoch, in RESTORE. -/
def lastJob (c : RollCause) : Job := ⟨.epoch, 3, 42#16, c, .restore, [], 2, 0, false⟩

/-- The last restore of stream 3's epoch stands on tag 44. -/
def rollingBack (c : RollCause) (k : Option KeptMarker) : State :=
  let s := withTag 44 (.inUse (.restore 0 5#34 false) 0 20)
    (withStream3 .rolling 0 (withEntries [entry3 0 5#34 (.holding .restoring zeroBlock)] ready))
  { s with
    engine := { s.engine with queue := [lastJob c], positions := [⟨0, false⟩] }
    epochs := s.epochs.withStream 3 { s.stream 3 with kept := k, origin := some .open } }

theorem witness_LastRestoreEndsJob :
    ∀ x ∈ [(RollCause.mark, some ⟨MarkerKind.abort, pair 1⟩), (.mgmt, none), (.line, none),
        (.aged, (none : Option KeptMarker))],
      let s := rollingBack x.1 x.2
      s.noPassOwed ∧ s.power.device = .ready ∧ s.wc.hold = [] ∧ s.port.queue = [] ∧ s.withinCeiling
        ∧ s.journal.canonical ∧ s.engine.queue = [lastJob x.1]
        ∧ s.engine.lingerPending = [] ∧ s.engine.positions = [⟨0, false⟩]
        ∧ s.port.tags[(44#6).toNat]? = some (.inUse (.restore 0 5#34 false) 0 20)
        ∧ s.entry? 0 = some (entry3 0 5#34 (.holding .restoring zeroBlock))
        ∧ (lastJob x.1).candidates s = [] ∧ s.streamFailed 3 = 0
        ∧ (s.stream 3).kept = x.2 ∧ (s.stream 3).origin = some .open := by decide +kernel

/-- The last restore of stream 3's epoch, by cause, origin and kept marker, in READY or DRAIN, with the job
older than the handing-over or not. -/
def rollingFrom (c : RollCause) (o : Origin) (k : Option KeptMarker) (drain prior : Bool) : State :=
  let s := rollingBack c k
  let s := if drain then { inDevice .drain none .rollingBack s with
    host := { s.host with readSlots := [⟨⟨pair 5, 5#34⟩, false, true⟩] } } else s
  { s with
    engine := { s.engine with queue := [{ lastJob c with prior := prior }] }
    epochs := s.epochs.withStream 3 { s.stream 3 with origin := some o } }

theorem witness_LastRestoreEndsJob_rows :
    (∀ x ∈ [(RollCause.doomed, Origin.committing, some (⟨.commit, pair 1⟩ : KeptMarker), false, false),
        (.doomed, .open, none, false, false), (.mgmt, .committing, some ⟨.commit, pair 1⟩, false, false),
        (.line, .committing, some ⟨.commit, pair 1⟩, false, false), (.line, .open, none, false, false),
        (.drain, .open, none, true, false), (.drain, .committing, some ⟨.commit, pair 1⟩, true, false),
        (.drain, .open, none, true, true), (.mark, .open, some ⟨.abort, pair 1⟩, true, true),
        (.mgmt, .open, none, true, false)],
      let s := rollingFrom x.1 x.2.1 x.2.2.1 x.2.2.2.1 x.2.2.2.2
      s.noPassOwed ∧ s.wc.hold = [] ∧ s.withinCeiling ∧ s.journal.canonical
        ∧ s.engine.positions = [⟨0, false⟩] ∧ (s.stream 3).origin = some x.2.1
        ∧ (s.stream 3).kept = x.2.2.1 ∧ s.streamFailed 3 = 0
        ∧ ((after (.memoryResponse 44#6 .error zeroBlock) s).stream 3).state = .halted)
    ∧ ((after (.memoryResponse 44#6 .ok zeroBlock)
        (rollingFrom .doomed .committing none false false)).stream 3).state = .closed
    ∧ ((after (.memoryResponse 44#6 .ok zeroBlock)
        (rollingFrom .line .open none false false)).stream 3).noticeOwed = true
    ∧ (after (.memoryResponse 44#6 .ok zeroBlock)
        (rollingFrom .drain .open none true false)).engine.restoredTally = 1
    ∧ (after (.memoryResponse 44#6 .error zeroBlock)
        (rollingFrom .drain .open none true true)).engine.queue.map (·.kind) = [.retry] := by
  decide +kernel

/-- The last restore of a RETRY job of stream 3, which owes a notice or not. -/
def retrying (notice : Bool) : State :=
  let s := rollingBack .mgmt none
  { s with
    engine := { s.engine with queue := [⟨.retry, 3, 42#16, .mgmt, .restore, [], 2, 0, false⟩] }
    epochs := s.epochs.withStream 3 { s.stream 3 with state := .halted, noticeOwed := notice }
    mgmt := { s.mgmt with retryOut := [3] } }

/-- The RETRY job of a drain. -/
def drainRetrying : State :=
  let s := inDevice .drain none .rollingBack (retrying true)
  { s with
    host := { s.host with readSlots := [⟨⟨pair 5, 5#34⟩, false, true⟩] }
    engine := { s.engine with queue := [⟨.retry, 3, 42#16, .drain, .restore, [], 2, 0, false⟩] } }

/-- The last restore, of entry 0 with a stray out to which tag 2 is tied, in READY or in DRAIN. -/
def strayRestore (drain : Bool) : State :=
  let s := rollingFrom .drain .open none drain false
  withTag 2 (.poisoned (some ⟨0, 5#34⟩))
    { s with journal := s.journal.updEntry 0 fun e => { e with strays := 1 } }

/-- The tags of a state that are tied to an entry. -/
def tied (s : State) : List Tie := s.port.tags.toList.filterMap Tag.tie?

theorem witness_LastRestoreEndsJob_strays :
    (∀ b ∈ [true, false],
      let s := strayRestore b
      s.noPassOwed ∧ s.wc.hold = [] ∧ s.port.queue = [] ∧ s.withinCeiling ∧ s.journal.canonical
        ∧ s.engine.positions = [⟨0, false⟩] ∧ s.streamFailed 3 = 0 ∧ tied s = [⟨0, 5#34⟩]
        ∧ s.entry? 0 = some { entry3 0 5#34 (.holding .restoring zeroBlock) with strays := 1 })
    ∧ ((after (.memoryResponse 44#6 .ok zeroBlock) (strayRestore false)).entry? 0).map (·.isIn .linger)
      = some true
    ∧ tied (after (.memoryResponse 44#6 .ok zeroBlock) (strayRestore false)) = [⟨0, 5#34⟩]
    ∧ (after (.memoryResponse 44#6 .ok zeroBlock) (strayRestore true)).entryCount = 0
    ∧ tied (after (.memoryResponse 44#6 .ok zeroBlock) (strayRestore true)) = []
    ∧ (after (.memoryResponse 44#6 .ok zeroBlock) (strayRestore true)).port.tags[2]?
      = some (.poisoned none) := by decide +kernel

theorem witness_LastRestoreEndsJob_retry :
    (retrying true).engine.queue = [⟨.retry, 3, 42#16, .mgmt, .restore, [], 2, 0, false⟩]
      ∧ ((retrying true).stream 3).state = .halted
      ∧ ((after (.memoryResponse 44#6 .ok zeroBlock) (retrying true)).stream 3).state = .abandoned
      ∧ ((after (.memoryResponse 44#6 .ok zeroBlock) (retrying false)).stream 3).state = .closed
      ∧ (after (.memoryResponse 44#6 .error zeroBlock) (retrying true)).mgmt.events.map (·.kind)
        = [.streamHalted, .commandDone, .memoryError]
      ∧ (after (.memoryResponse 44#6 .error zeroBlock) drainRetrying).mgmt.events.map (·.kind)
        = [.streamHalted, .memoryError] := by decide +kernel

/-- The linger re-restore of entry 0 stands on tag 44, its stream in a state. -/
def reRestoring (st : StreamState) : State :=
  let s := withTag 44 (.inUse (.restore 0 5#34 true) 0 20)
    (withStream3 st 1 (withEntries [entry3 0 5#34 (.holding .restoring zeroBlock)] ready))
  { s with engine := { s.engine with positions := [⟨0, true⟩] } }

theorem witness_LastRestoreEndsJob_linger :
    (∀ x ∈ [(StreamState.closed, StreamState.halted), (.abandoned, .halted), (.open, .rolling),
        (.committing, .rolling), (.rolling, .rolling), (.halted, .halted)],
      let s := reRestoring x.1
      s.noPassOwed ∧ s.power.device = .ready ∧ s.wc.hold = [] ∧ s.port.queue = [] ∧ s.withinCeiling
        ∧ s.journal.canonical ∧ s.engineIdle ∧ s.engine.positions = [⟨0, true⟩]
        ∧ s.entry? 0 = some (entry3 0 5#34 (.holding .restoring zeroBlock))
        ∧ 0 < (s.stream 3).inFlight
        ∧ ((after (.memoryResponse 44#6 .error zeroBlock) s).stream 3).state = x.2)
    ∧ (after (.memoryResponse 44#6 .ok zeroBlock) (reRestoring .closed)).entryCount = 0 := by
  decide +kernel

/-- A linger re-restore in a phase of DRAIN, with a read unanswered and a stray out. -/
def reRestoringDrain (ph : DrainPhase) (st : StreamState) : State :=
  let s := inDevice .drain none ph (reRestoring st)
  { s with
    journal := s.journal.updEntry 0 fun e => { e with strays := 1 }
    host := { s.host with readSlots := [⟨⟨pair 5, 5#34⟩, false, false⟩] } }

theorem witness_LastRestoreEndsJob_lingerDrain :
    ∀ ph ∈ [DrainPhase.settling, .rollingBack], ∀ x ∈ [(StreamState.closed, StreamState.halted),
        (.abandoned, .halted), (.open, .rolling), (.committing, .rolling), (.halted, .halted)],
      let s := reRestoringDrain ph x.1
      let t := after (.memoryResponse 44#6 .error zeroBlock) s
      s.noPassOwed ∧ s.wc.hold = [] ∧ s.port.queue = [] ∧ s.withinCeiling ∧ s.journal.canonical
        ∧ s.engineIdle ∧ s.engine.positions = [⟨0, true⟩] ∧ s.power.device = .drain ∧ s.power.phase = ph
        ∧ s.host.readSlots ≠ [] ∧ (∃ y ∈ s.host.readSlots, y.answered = false)
        ∧ 0 < (s.stream 3).inFlight
        ∧ (t.stream 3).state = x.2 ∧ (t.stream 3).doomed = false ∧ t.engine.failedTally = 1
        ∧ (after (.memoryResponse 44#6 .ok zeroBlock) s).engine.lingerTally = 1
        ∧ (after (.memoryResponse 44#6 .ok zeroBlock) s).entryCount = 0 := by decide +kernel

/-- A linger re-restore fails while its ROLLING stream's job settles. -/
def reRestoringSettling : State :=
  let s := reRestoring .rolling
  { s with engine := { s.engine with queue := [settlingJob] } }

theorem witness_LastRestoreEndsJob_lingerSettling :
    reRestoringSettling.settles settlingJob ∧ (reRestoringSettling.stream 3).state = .rolling
      ∧ (after (.memoryResponse 44#6 .error zeroBlock) reRestoringSettling).engine.queue
        = [settlingJob] := by decide +kernel

theorem test_last_restore_by_cause :
    ((after (.memoryResponse 44#6 .ok zeroBlock)
        (rollingBack .mark (some ⟨.abort, pair 1⟩))).stream 3).state = .closed
      ∧ ((after (.memoryResponse 44#6 .ok zeroBlock) (rollingBack .aged none)).stream 3).state
        = .abandoned
      ∧ ((after (.memoryResponse 44#6 .error zeroBlock)
        (rollingBack .mark (some ⟨.abort, pair 1⟩))).stream 3).state = .halted := by decide +kernel

theorem witness_TimeoutPoisonsTag :
    twoInUse.quiet ∧ twoInUse.port.tags[(0#6).toNat]? = some (.inUse (.hostRead (pair 1) 5#34) 0 20)
      ∧ forwarded.quiet ∧ forwarded.engineIdle ∧ (forwarded.stream 3).state = .open
      ∧ forwarded.port.tags[(0#6).toNat]? = some (.inUse (.forward (pair 1) 5#34 0 3 42#16) 0 20)
      ∧ (after (.responseLimitExpiry 0#6) forwarded).port.tags[0]?
        = some (.poisoned (some ⟨0, 5#34⟩)) := by decide +kernel

theorem witness_TimeoutPoisonsTag_capture :
    capturing.quiet ∧ capturing.engine.lingerPending = [] ∧ (captureTooLate false).quiet
      ∧ (captureTooLate false).settles ⟨.epoch, 3, 42#16, .line, .settle, [], 0, 0, false⟩
      ∧ ((captureTooLate false).stream 3).state = .rolling
      ∧ (after (.responseLimitExpiry 0#6) capturing).host.writeResponses = [⟨pair 1, .memory, false⟩]
      ∧ (after (.responseLimitExpiry 0#6) (captureTooLate false)).host.writeResponses
        = [⟨pair 1, .lost, false⟩] := by decide +kernel

/-- A second restore write of the job of `rollingBack` is outstanding. -/
def twoRestoring : State :=
  let s := rollingBack .line none
  { s with engine := { s.engine with positions := [⟨0, false⟩, ⟨7, false⟩] } }

theorem witness_TimeoutPoisonsTag_restore :
    twoRestoring.quiet ∧ twoRestoring.engine.queue = [lastJob .line]
      ∧ twoRestoring.port.tags[(44#6).toNat]? = some (.inUse (.restore 0 5#34 false) 0 20)
      ∧ twoRestoring.entry? 0 = some (entry3 0 5#34 (.holding .restoring zeroBlock))
      ∧ (lastJob .line).candidates twoRestoring = [] ∧ twoRestoring.engine.lingerPending = []
      ∧ twoRestoring.journal.canonical
      ∧ (after (.responseLimitExpiry 44#6) twoRestoring).streamFailed 3 = 1 := by decide +kernel

/-! ### Witnesses: timers, ROLLBACK_N, meter -/

/-- A held write of stream 3 with a reason. -/
def heldWrite (r : HoldReason) (e : Option EpochNo) : HeldItem :=
  ⟨pair 1, .write 7#34, 3, e, r, 0⟩

theorem witness_HoldExpiry :
    (∀ r ∈ [HoldReason.conflict, .admission, .epochWait],
      let s := withHeld [heldWrite r (some 42#16)] (openLive 0)
      s.quiet ∧ s.wc.hold = [heldWrite r (some 42#16)] ∧ (s.stream 3).state ≠ .committing
        ∧ (after (.holdLimitExpiry (pair 1)) s).now = 100)
    ∧ (∀ r ∈ [HoldReason.captureWait, .lineOrder],
      (withHeld [heldWrite r none] (openLive 0)).heldItem? (pair 1) = some (heldWrite r none))
    ∧ ready.heldItem? (pair 1) = none := by decide +kernel

/-- Stream 3 COMMITTING, its kept marker under pair 8 and a member held with reason CONFLICT, in each case
of `rollsBackTo`. -/
def committingHeld (i : Nat) : State :=
  let s := withHeld [heldWrite .conflict (some 42#16)] (ending .committing i)
  let k : KeptMarker := ⟨.commit, pair 8⟩
  let slots : List WriteSlot := [⟨write 1 7#34, false, false⟩, ⟨marker 8 .commit, false, false⟩]
  { s with
    host := { s.host with writeSlots := slots }
    epochs := s.epochs.withStream 3 { s.stream 3 with kept := some k, age := .stopped 7 } }

theorem witness_HoldExpiry_committing :
    ∀ i ∈ List.range 5,
      let s := committingHeld i
      let t := after (.holdLimitExpiry (pair 1)) s
      s.quiet ∧ s.wc.hold = [heldWrite .conflict (some 42#16)] ∧ (s.stream 3).state = .committing
        ∧ s.power.device = .ready ∧ s.engine.lingerPending = [] ∧ meetsCase i s
        ∧ ((i = 1 ∨ i = 2) → (t.stream 3).state = .committing ∧ (t.stream 3).doomed = true)
        ∧ (i = 0 ∨ i = 3 → phases t = phasesOf i ∧ (t.stream 3).kept = some ⟨.commit, pair 8⟩)
        ∧ (i = 4 → (t.stream 3).state = .closed
          ∧ t.host.writeResponses = [⟨pair 1, .refused, false⟩, ⟨pair 8, .lost, false⟩]) := by
  decide +kernel

/-- Stream 3 OPEN with an age limit of 50 ms and a write in flight. -/
def aging : State :=
  let st := { (openLive 1).stream 3 with ageLimit := 5 }
  { openLive 1 with epochs := (openLive 1).epochs.withStream 3 st }

theorem witness_AgeExpiryRolls :
    aging.power.device = .ready ∧ aging.noPassOwed ∧ aging.wc.hold = [] ∧ aging.engineIdle
      ∧ (aging.stream 3).state = .open ∧ (aging.stream 3).ageLimit ≠ 0
      ∧ 0 < (aging.stream 3).inFlight ∧ (aging.stream 3).age = .running 0
      ∧ spent.power.device ≠ .ready ∧ (ready.stream 3).state ≠ .open
      ∧ ((openLive 1).stream 3).ageLimit = 0
      ∧ ((after (.ageExpiry 3) aging).stream 3).age = .stopped 50 := by decide +kernel

theorem witness_AgeExpiryRolls_cases :
    ∀ i ∈ List.range 5,
      let s := ending .open i
      let a := { s with epochs := s.epochs.withStream 3 { s.stream 3 with ageLimit := 5 } }
      a.power.device = .ready ∧ a.canRoll 3 ∧ (a.stream 3).state = .open ∧ (a.stream 3).ageLimit ≠ 0
        ∧ (a.stream 3).age = .running 0 ∧ meetsCase i a ∧ phases (after (.ageExpiry 3) a) = phasesOf i
        ∧ (i = 4 → ((after (.ageExpiry 3) a).stream 3).state = .abandoned) := by decide +kernel

theorem witness_RollbackLine_one :
    ∀ i ∈ List.range 5, ∀ x ∈ [(Origin.open, StreamState.open), (.committing, .committing)],
      let s := ending x.2 i
      s.power.device = .ready ∧ s.canRoll 3 ∧ s.isAt 3 x.1 ∧ meetsCase i s
        ∧ (∀ m, m ≠ 3 → (s.stream m).state ≠ .open ∧ (s.stream m).state ≠ .committing)
        ∧ phases (after .rollbackNAssertion s) = phasesOf i := by decide +kernel

theorem witness_RollbackLine :
    spent.power.device ≠ .ready ∧ (openLive 1).power.device = .ready ∧ (openLive 1).wc.hold = []
      ∧ ((openLive 1).stream 3).state = .open ∧ (∀ j ∈ (openLive 1).engine.queue, j.stream ≠ 3)
      ∧ ready.quiet ∧ ready.engineIdle
      ∧ (∀ n, (ready.stream n).state ≠ .open ∧ (ready.stream n).state ≠ .committing)
      ∧ ((after .rollbackNAssertion (openLive 1)).stream 3).lossCause = some .line := by decide +kernel

/-- Streams 3 and 5 OPEN and COMMITTING, each with writes in flight. -/
def twoEnding : State :=
  { openLive 1 with epochs := (openLive 1).epochs.withStream 5 { Stream.por with
      state := .committing, epoch := 7#16, inFlight := 2 } }

theorem witness_RollbackLine_two :
    twoEnding.power.device = .ready ∧ twoEnding.noPassOwed ∧ twoEnding.wc.hold = []
      ∧ twoEnding.engineIdle
      ∧ (∀ n, ((twoEnding.stream n).state = .open ∨ (twoEnding.stream n).state = .committing) →
        0 < (twoEnding.stream n).inFlight)
      ∧ (after .rollbackNAssertion twoEnding).engine.queue
        = [⟨.epoch, 3, 42#16, .line, .settle, [], 0, 0, false⟩,
          ⟨.epoch, 5, 7#16, .line, .queued, [], 0, 0, false⟩] := by decide +kernel

/-- INIT's first survey, with the levels of the supply and of PFAIL_N. -/
def firstSurvey (supply pfail : Bool) : State :=
  { inDevice .init (some .firstSurvey) .none ready with pins := ⟨supply, pfail, true⟩ }

theorem witness_SurveyEndPublishes_init :
    (∀ x ∈ [(true, true), (false, true), (true, false), (false, false)],
      let s := firstSurvey x.1 x.2
      s.quiet ∧ s.wc.hold = [] ∧ s.meter.mode = .running ⟨0, 100, 8000, 40⟩ ∧ s.busEmpty
        ∧ s.power.device = .init ∧ s.power.initStep = some .firstSurvey ∧ s.store.op = .idle)
    ∧ (after (.surveyEnd 40000#16) (firstSurvey false true)).power.device = .spent
    ∧ (after (.surveyEnd 40000#16) (firstSurvey false false)).power.cause = .power
    ∧ (after (.surveyEnd 40000#16) (firstSurvey false true)).mgmt.events = [anEvent] := by decide +kernel

/-- R143: step 5 with the supply reported good, by what the reading finds and the level of PFAIL_N. -/
theorem test_step5_reads_supply (sagged pfail : Bool) (h : Config.supplySagged 0 = sagged) :
    (firstSurvey true pfail).openOrSpend.power.device
        = (if !sagged && pfail then DeviceState.ready else .spent)
      ∧ (firstSurvey true pfail).openOrSpend.power.cause
        = (if sagged then DrainCause.power else if pfail then .none else .pfail) := by
  have hr : (firstSurvey true pfail).readSupply
      = { firstSurvey true pfail with pins := ⟨!sagged, pfail, true⟩, freeCount := 1 } := by
    rw [← h]; rfl
  unfold State.openOrSpend
  rw [hr]
  cases sagged <;> cases pfail <;> decide +kernel

/-- R135: an offset of 512 is within the limit, one of 513 beyond it, on either side. -/
theorem witness_SurveyEndPublishes_offset :
    ([512, 513, -512, -513].map fun x : Int =>
      (after (.surveyEnd 40000#16) { ready with meter := { ready.meter with offset := x } }).meter.faultOffset)
      = [false, true, false, true] := by decide +kernel

theorem witness_SurveyEndPublishes :
    ready.quiet ∧ ready.wc.hold = [] ∧ ready.meter.mode = .running ⟨0, 100, 8000, 40⟩
      ∧ ¬ (ready.power.device = .init ∧ ready.power.initStep = some .firstSurvey)
      ∧ (after (.surveyEnd 8040#16) ready).meter.credit = 1
      ∧ (after (.surveyEnd 65535#16) ready).meter.faultRaw = true := by decide +kernel

/-- A calibration asked for by CALIBRATE, or not, with a first reading or none. -/
def calibrating (first : Option Int) (requested : Bool) : State :=
  { ready with meter := { ready.meter with mode := .calibrating ⟨0, 100, first, requested⟩ } }

theorem witness_CalibrationRuns :
    ready.linkOpen ∧ ready.power.device = .ready
      ∧ ready.meter.mode = .running ⟨0, 100, 8000, 40⟩
      ∧ (calibrating none true).linkOpen ∧ (calibrating none true).power.device = .ready
      ∧ (calibrating none true).meter.mode = .calibrating ⟨0, 100, none, true⟩
      ∧ (calibrating (some 3) true).meter.mode = .calibrating ⟨0, 100, some 3, true⟩
      ∧ (calibrating (some 3) false).meter.mode = .calibrating ⟨0, 100, some 3, false⟩
      ∧ ¬ (ready.power.device = .init ∧ ready.power.initStep = some .calibrate)
      ∧ (after (.zeroSurveyEnd 4#16) (calibrating (some (-9)) true)).meter.offset = -2 := by
  decide +kernel

/-- INIT's own calibration in its second zero survey. -/
def calibratingInit : State := inDevice .init (some .calibrate) .none (calibrating (some 3) false)

theorem witness_CalibrationRuns_init :
    calibratingInit.meter.mode = .calibrating ⟨0, 100, some 3, false⟩
      ∧ calibratingInit.power.device = .init ∧ calibratingInit.power.initStep = some .calibrate
      ∧ (after (.zeroSurveyEnd 4#16) calibratingInit).power.initStep = some .firstSurvey := by
  decide +kernel

/-! ### Witnesses: power control and outcome store -/

/-- OFF. -/
def off : State := after .supplyLoss ready

theorem witness_PorBeginsInit :
    off.power.device = .off ∧ ready.power.device ≠ .off
      ∧ (after (.por 3#2) off).mgmt.address = 0x5F#7 := by decide +kernel

/-- The store programs a record, or erases sector 2. -/
def programming (isEnd : Bool) (b : Block) : State :=
  { draining with store := { draining.store with op := .programming 0 isEnd b } }

/-- INIT step 2. -/
def preparing (op : StoreOp) : State :=
  { inDevice .init (some .store) .none ready with store := { ready.store with
      op := op, table := List.replicate 64 .valid } }

theorem witness_SupplyLossEntersOff :
    ready.power.device ≠ .off ∧ ready.store.op = .idle
      ∧ (programming false zeroBlock).store.op = .programming 0 false zeroBlock
      ∧ (preparing (.erasing 2 .repair)).store.op = .erasing 2 .repair := by decide +kernel

/-- READY with a read unanswered. -/
def readOut : State :=
  { ready with host := { ready.host with readSlots := [⟨⟨pair 1, 5#34⟩, false, false⟩] } }

theorem witness_TriggerBeginsDrain :
    readOut.power.device = .ready ∧ readOut.noPassOwed
      ∧ readOut.meter.mode = .running ⟨0, 100, 8000, 40⟩ ∧ readOut.store.usable = true
      ∧ ⟨⟨pair 1, 5#34⟩, false, false⟩ ∈ readOut.host.readSlots ∧ readOut.wc.hold = []
      ∧ readOut.linkIdle
      ∧ (withHeld [heldWrite .conflict (some 42#16)] readOut).wc.hold
          = [heldWrite .conflict (some 42#16)]
      ∧ (after .restart readOut).power.cause = .restart
      ∧ (after .resetNAssertion readOut).power.resetRemembered = true := by decide +kernel

/-- READY with a rollback whose four restores are out, streams 1 and 2 OPEN with stream 2's epoch the older,
stream 4 COMMITTING and doomed, stream 6 HALTED, and entries 2 and 7 LINGER. -/
def busyRollback : State :=
  let s := withEntries [entry3 2 5#34 (.holding .linger zeroBlock),
    entry3 7 6#34 (.holding .linger zeroBlock)] ready
  let st := fun (x : StreamState) (o : BitVec 32) => { Stream.por with state := x, opening := o }
  { s with
    host := { s.host with readSlots := [⟨⟨pair 1, 5#34⟩, false, true⟩]
                          writeSlots := [⟨marker 8 .commit, false, false⟩] }
    epochs := ⟨((((s.epochs.streams.set 1 (st .open 8#32)).set 2 (st .open 5#32)).set 4
      { st .committing 0xFFFFFFFF#32 with doomed := true, kept := some ⟨.commit, pair 8⟩ }).set 6
      (st .halted 1#32)), 9#32⟩
    engine := { s.engine with
      queue := [lastJob .line], positions := [⟨30, false⟩, ⟨31, false⟩, ⟨32, false⟩, ⟨33, true⟩] } }

theorem witness_TriggerBeginsDrain_handsOver :
    busyRollback.noPassOwed ∧ busyRollback.wc.hold = [] ∧ busyRollback.journal.canonical
      ∧ (∀ x ∈ busyRollback.host.writeSlots, x.answered = true ∨ (x.duplicate = false
        ∧ ∃ n, (busyRollback.stream n).kept.map (·.pair) = some x.req.pair))
      ∧ (lastJob .line).kind = .epoch ∧ (lastJob .line).phase = .restore
      ∧ (∃ q ∈ busyRollback.engine.positions, q.linger = false)
      ∧ (∀ n, n ∈ ([4, 2, 1] : List StreamId) ↔ ((busyRollback.stream n).state = .open
        ∨ ((busyRollback.stream n).state = .committing ∧ (busyRollback.stream n).doomed = true)))
      ∧ ([4, 2, 1] : List StreamId).Pairwise (fun a b =>
        (busyRollback.epochs.opening - (busyRollback.stream b).opening).toNat
          < (busyRollback.epochs.opening - (busyRollback.stream a).opening).toNat)
      ∧ (after .supplyTrip busyRollback).engine.queue.map (·.stream) = [3, 4, 2, 1, 6]
      ∧ (after .supplyTrip busyRollback).engine.lingerPending = [2, 7]
      ∧ (after .supplyTrip busyRollback).power.phase = .rollingBack := by decide +kernel

theorem witness_TriggerBeginsDrain_calibrating :
    let s := { readOut with meter := (calibrating (some 3) true).meter }
    s.meter.mode = .calibrating ⟨0, 100, some 3, true⟩ ∧ s.wc.hold = []
      ∧ (after .supplyTrip s).meter.mode = .running ⟨0, 100, 8000, 40⟩
      ∧ (after .supplyTrip { s with store := { s.store with usable := false } }).store.op = .idle := by
  decide +kernel

/-- A drain with nothing to wait for and an unusable store ends in the act that begins it. -/
theorem test_empty_drain_is_spent :
    (after .supplyTrip { ready with store := { ready.store with usable := false } }).power.device
      = .spent := by decide +kernel

theorem witness_LevelsInDrainAndReady :
    draining.power.device = .drain ∧ ready.power.device = .ready
      ∧ (after .resetNAssertion draining).power.resetRemembered = true := by decide +kernel

/-- INIT step 1, held by a low RESET_N. -/
def heldInReset : State := after .resetNAssertion State.reset

theorem witness_EventsInInit :
    State.reset.power.device = .init ∧ State.reset.store.op = .scanning
      ∧ heldInReset.power.device = .init ∧ heldInReset.store.op = .idle
      ∧ heldInReset.power.initStep = some .clear ∧ heldInReset.store.usable = true
      ∧ (after .supplyTrip State.reset).power.device = .spent
      ∧ (after .resetNRise heldInReset).power.initStep = some .store := by decide +kernel

/-- SPENT with the settle timer running. -/
def settling (remembered : Bool) : State :=
  { spent with
    pins := ⟨true, true, true⟩
    power := { spent.power with settleSince := some 0, resetRemembered := remembered } }

theorem witness_SettleTimer :
    spent.power.device = .spent ∧ (after .supplyGood spent).power.settleSince = some 0
      ∧ (after .pfailNAssertion (settling false)).power.settleSince = none
      ∧ (after .supplyGood { settling false with now := 7 }).power.settleSince = some 7
      ∧ (after .resetNRise { settling false with now := 7 }).power.settleSince = some 0 := by decide +kernel

theorem witness_SettleExpiryBeginsInit :
    (∀ r ∈ [true, false], (settling r).power.device = .spent
      ∧ (settling r).power.settleSince = some 0 ∧ (settling r).pins.resetHigh = true
      ∧ (settling r).store.usable = true ∧ (settling r).power.resetRemembered = r)
    ∧ ready.power.device ≠ .spent ∧ spent.power.settleSince = none
    ∧ (after .settleTimerExpiry (settling false)).cls = ready.cls
    ∧ (after .settleTimerExpiry (settling true)).cls = Classifier.por := by decide +kernel

/-- RECORDING, the END record being programmed, with RESET_N low or high. -/
def recording (c : DrainCause) (reset : Bool) : State :=
  let s := { inDevice .drain none .recording ready with
    store := { ready.store with op := .programming 0 true zeroBlock }, pins := ⟨true, true, reset⟩ }
  { s with power := { s.power with cause := c } }

theorem witness_ProgramDone :
    (programming false zeroBlock).store.op = .programming 0 false zeroBlock
      ∧ (programming false zeroBlock).power.device = .drain
      ∧ (programming false zeroBlock).power.phase = .settling
      ∧ (programming false zeroBlock).noPassOwed
      ∧ ⟨⟨pair 1, 5#34⟩, false, false⟩ ∈ (programming false zeroBlock).host.readSlots
      ∧ erasedBlock ≠ zeroBlock
      ∧ (recording .power false).store.op = .programming 0 true zeroBlock
      ∧ (recording .power false).meter.mode = .running ⟨0, 100, 8000, 40⟩
      ∧ (recording .restart true).power.cause = .restart ∧ (recording .power false).power.cause ≠ .restart
      ∧ (recording .restart true).store.op = .programming 0 true zeroBlock
      ∧ (recording .restart true).meter.mode = .running ⟨0, 100, 8000, 40⟩
      ∧ (recording .restart true).pins.settled ∧ ¬ (recording .power false).pins.settled
      ∧ ready.store.op = .idle
      ∧ (after (.slotProgramDone zeroBlock) (recording .power false)).power.device = .spent
      ∧ (after (.slotProgramDone zeroBlock) (recording .power false)).power.settleSince = none := by
  decide +kernel

/-- R152: SPENT is entered with the three conditions holding, by what the reading of the supply finds. -/
theorem test_entry_into_spent_reads_supply (sagged : Bool) (h : Config.supplySagged 0 = sagged) :
    (recording .restart true).enterSpent.power.settleSince = if sagged then none else some 0 := by
  rw [← h]
  show (if (!Config.supplySagged 0 && true && true) then some 0 else none) = _
  cases Config.supplySagged 0 <;> rfl

/-- ROLLING_BACK, waiting for the BEGIN record alone. -/
def beginLeft : State :=
  let s := inDevice .drain none .rollingBack ready
  { s with
    pins := ⟨true, true, false⟩
    store := { s.store with op := .programming 0 false zeroBlock, table := List.replicate 64 .erased } }

theorem witness_ProgramDone_rollingBack :
    beginLeft.power.device = .drain ∧ beginLeft.noPassOwed ∧ beginLeft.engineFinished
      ∧ beginLeft.port.nothingOutstanding ∧ beginLeft.host.writeSlots = []
      ∧ beginLeft.host.readSlots = [] ∧ beginLeft.store.usable = true
      ∧ (after (.slotProgramDone zeroBlock) beginLeft).power.phase = .recording
      ∧ (after (.slotProgramDone erasedBlock) beginLeft).power.device = .spent
      ∧ (after (.slotProgramDone erasedBlock) (recording .power false)).store.usable = false := by
  decide +kernel

/-- A scan of a store with a BEGIN and an END of one drain in slots 0 and 1, and slot 16 disturbed or not. -/
def scanning (failed : Nat) (torn : Bool) : State :=
  let slots := (State.reset.store.slots.set 0 (beginSlot 7#32 .pfail 3 [])).set 1
    (endSlot 7#32 1 2 failed 4)
  { State.reset with store := { State.reset.store with
    slots := if torn then slots.set 16 zeroBlock else slots } }

/-- The store as a scan leaves it, before preparation. -/
def scanned (s : State) : Store :=
  { s.store with table := s.store.slots.toList.map judgeSlot, op := .idle }

theorem witness_StoreWorkDone_startsAt :
    (scanned (scanning 1 false)).startsAt 2 8#32 ⟨.partialDrain, some 7#32, .pfail⟩ 1 := by
  refine .inr ⟨1, .pfail, ?_, ?_, ?_, ?_, ?_, ?_⟩ <;> decide +kernel

theorem witness_StoreWorkDone_records :
    (∀ x, ¬ (scanned (scanning 1 false)).tornAt x)
      ∧ (scanned (scanning 1 false)).isState 2 .erased ∧ (scanned (scanning 1 false)).isState 3 .erased
      ∧ (after .scanDone (scanning 0 false)).store.report = ⟨.complete, some 7#32, .pfail⟩
      ∧ (after .scanDone (scanning 1 false)).store.report = ⟨.partialDrain, some 7#32, .pfail⟩ := by
  decide +kernel

/-- The sectors are written full but for the places named, the newest record a BEGIN in slot 17. -/
def fullStore (free : List Nat) : State :=
  let slots : Vector Block 64 := Vector.ofFn fun i => if free.contains i.val then erasedBlock
    else beginSlot (BitVec.ofNat 32 ((i.val + 46) % 64)) .reset 0 []
  { State.reset with store := { State.reset.store with slots := slots } }

theorem witness_StoreWorkDone_torn :
    (scanned (scanning 0 true)).tornAt 1 ∧ ¬ (scanned (scanning 0 true)).tornAt 0
      ∧ (after .scanDone (scanning 0 true)).store.op = .erasing 1 .repair
      ∧ (after (.sectorEraseDone (Vector.replicate 16 erasedBlock))
        (after .scanDone (scanning 0 true))).store.next = 2 := by decide +kernel

theorem witness_StoreWorkDone_room :
    (after .scanDone (fullStore [])).store.op = .erasing 2 .noErasedSlot
      ∧ (after (.sectorEraseDone (Vector.replicate 16 erasedBlock))
        (after .scanDone (fullStore []))).store.next = 32
      ∧ (after .scanDone (fullStore [31])).store.op = .erasing 2 .roomForTwo
      ∧ (after .scanDone (fullStore [31, 32])).store.report = ⟨.interrupted, some 63#32, .reset⟩ := by
  decide +kernel

theorem witness_StoreWorkDone :
    State.reset.store.op = .scanning ∧ ready.store.op ≠ .scanning
      ∧ (preparing (.erasing 2 .roomForTwo)).store.op = .erasing 2 .roomForTwo
      ∧ (preparing (.erasing 2 .roomForTwo)).store.table.length = 64
      ∧ (∃ j : Fin 16, (Vector.replicate 16 zeroBlock)[j] ≠ erasedBlock)
      ∧ (∀ j : Fin 16, (Vector.replicate 16 erasedBlock)[j] = erasedBlock) := by decide +kernel

theorem witness_StoreWorkDone_slots : State.reset.store.slots = Vector.replicate 64 erasedBlock := rfl

/-! ### Witnesses: management port -/

theorem witness_ReadFrameAndStuckLink :
    ready.linkOpen ∧ (0xB9#8).extractLsb' 1 7 = ready.mgmt.address ∧ (0xB9#8).getLsbD 0 = true
      ∧ (0xBB#8).extractLsb' 1 7 ≠ ready.mgmt.address ∧ off.power.device = .off
      ∧ (after (.readFrame 0xB9#8 [true, true, false, true] false) ready).mgmt.sent
        = [0x87#8, 0#8, crc8 [0xB9#8, 0x87#8, 0#8], 0xFF#8]
      ∧ (after (.readFrame 0xB9#8 [true, false, true] false) (ready.respond .ok [])).mgmt.response
        = some ⟨.ok, []⟩
      ∧ (after (.readFrame 0xB9#8 [true, true, false] true) (ready.respond .ok [])).mgmt.response
        = none := by decide +kernel

theorem witness_RequestFrameTests :
    ready.linkOpen ∧ (0xB8#8).getLsbD 0 = false ∧ (0xB8#8).extractLsb' 1 7 = ready.mgmt.address
      ∧ (0xBA#8).extractLsb' 1 7 ≠ ready.mgmt.address
      ∧ 0x57#8 ≠ crc8 [0xB8#8, 0x01#8, 0x01#8, 0x00#8] ∧ (2#8).toNat ≠ [0x00#8].length
      ∧ payloadLength 0x14#8 = none ∧ payloadLength 0x10#8 = some 0
      ∧ (after (.requestFrame 0xB8#8 [0x01#8, 0x01#8, 0x00#8, 0x57#8] true) ready).mgmt.response
        = some ⟨.badCheck, []⟩ := by decide +kernel

/-- A frame of 43 bytes whose last is its check, to be followed by one more. -/
theorem witness_RequestFrameTests_overLong :
    let bytes := List.replicate 42 0#8 ++ [crc8 (0xB8#8 :: List.replicate 42 0#8)]
    bytes.length = 43 ∧ bytes.getLast? = some (crc8 (0xB8#8 :: bytes.dropLast))
      ∧ (after (.requestFrame 0xB8#8 (bytes ++ [0#8]) false) ready).mgmt.acked
        = List.replicate 44 true ++ [false]
      ∧ (after (.requestFrame 0xBA#8 [1#8] true) ready).mgmt.acked = [false, false] := by
  decide +kernel

theorem witness_FrameActsAsCommand :
    ready.linkOpen ∧ payloadLength 0x0E#8 = some [9#8].length ∧ (1#8).toNat = [9#8].length
      ∧ frameCommand 0x0E#8 [9#8] = some (.command (.timeoutSet 9#8))
      ∧ (after (.requestFrame 0xB8#8 [0x0E#8, 1#8, 9#8, crc8 [0xB8#8, 0x0E#8, 1#8, 9#8]] true)
        ready).port.limit = 9
      ∧ (2#8 : Byte) ≠ 0#8 ∧ (2#8 : Byte) ≠ 1#8 ∧ draining.linkOpen ∧ draining.power.device ≠ .ready
      ∧ ([ready, draining].map fun s => (after (.requestFrame 0xB8#8
          [0x09#8, 2#8, 3#8, 2#8, crc8 [0xB8#8, 0x09#8, 2#8, 3#8, 2#8]] true) s).mgmt.response)
        = [some ⟨.badValue, []⟩, some ⟨.notNow, []⟩] := by decide +kernel

/-- Table 11-2: the payload lengths of STATUS, STREAM_INFO and SOURCE_MAP_INFO. -/
theorem test_payload_lengths :
    ready.statusPart0.length = 34 ∧ ready.statusPart1.length = 30
      ∧ (ready.streamPayload 3).length = 32 ∧ ready.cls.mapPayload.length = 32 := by decide +kernel

theorem witness_StatusReports : ready.linkOpen ∧ (2#8 : Byte) ≠ 0#8 ∧ (2#8 : Byte) ≠ 1#8 := by decide

theorem witness_StreamInfoReports : (7#8).toNat < 8 ∧ 8 ≤ (8#8).toNat := by decide

theorem witness_RegionAndMapReports : (7#8).toNat < 8 ∧ 8 ≤ (8#8).toNat ∧ ready.linkOpen := by decide

/-- Entry 511 of stream 3 is FAILED. -/
def failedLast : State :=
  withStream3 .halted 0 (withEntries [entry3 1 6#34 (.capturing (pair 1)),
    entry3 511 5#34 (.holding .failed zeroBlock)] ready)

theorem witness_JournalAndOutcomeReads :
    failedLast.linkOpen ∧ (511#16).toNat < 512 ∧ 512 ≤ (512#16).toNat ∧ failedLast.entry? 0 = none
      ∧ failedLast.entry? 1 = some (entry3 1 6#34 (.capturing (pair 1)))
      ∧ failedLast.entry? 511 = some (entry3 511 5#34 (.holding .failed zeroBlock))
      ∧ 2 ≤ (2#8).toNat ∧ failedLast.store.kthNewest 0 = none ∧ 64 ≤ (64#8).toNat
      ∧ (after (.failedList 3#8 511#16) failedLast).mgmt.response
        = some ⟨.ok, [1#8, 0x01#8, 0xFF#8, 0#8, 0#8, 0#8, 0#8, 5#8]⟩ := by decide +kernel

/-- The store's table holds one VALID record, an END in slot 0. -/
def recorded : State :=
  { ready with store := { ready.store with
      slots := ready.store.slots.set 0 (endSlot 7#32 1 2 0 4)
      table := .valid :: List.replicate 63 .erased } }

theorem witness_JournalAndOutcomeReads_record :
    (recorded.store.kthNewest 0).isSome = true
      ∧ (after (.outcome 0#8) recorded).mgmt.response
        = some ⟨.ok, [0#8, 0x20#8, 0#8, 0#8, 0#8, 7#8, 1#8, 0#8, 2#8, 0#8, 0#8, 0#8, 4#8]⟩ := by
  decide +kernel

/-- VALID records in slots 0 (BEGIN 7), 1 (END 7) and 2 (BEGIN 8 with one item). -/
def threeRecords : State :=
  { ready with store := { ready.store with
      slots := ((ready.store.slots.set 0 (beginSlot 7#32 .power 3 [])).set 1
        (endSlot 7#32 1 2 0 4)).set 2 (beginSlot 8#32 .reset 3 [⟨3, 42#16, 3⟩])
      table := [.valid, .valid, .valid] ++ List.replicate 61 .erased } }

theorem witness_JournalAndOutcomeReads_order :
    ([0#8, 1#8, 2#8, 3#8].map fun k =>
      ((after (.outcome k) threeRecords).mgmt.response.map fun r => (r.status, r.payload.take 6)))
      = [some (.ok, [2#8, 0x13#8, 0#8, 0#8, 0#8, 8#8]), some (.ok, [1#8, 0x20#8, 0#8, 0#8, 0#8, 7#8]),
        some (.ok, [0#8, 0x11#8, 0#8, 0#8, 0#8, 7#8]), some (.empty, [])]
      ∧ ((after (.outcome 0#8) threeRecords).mgmt.response.map (·.payload.drop 8))
        = some [0x60#8, 3#8, 0#8, 42#8] := by decide +kernel

theorem witness_StreamSetReplaces :
    ready.linkOpen ∧ ready.power.device = .ready ∧ ready.noPassOwed ∧ ready.wc.hold = []
      ∧ 1 ≤ (1#16).toNat ∧ (512#16).toNat ≤ 512 ∧ 512 < (513#16).toNat ∧ 2 ≤ (2#8).toNat
      ∧ ((openLive 0).stream 3).age.valueAt (openLive 0).now < (1#16).toNat * 10
      ∧ ((after (.streamSet 3#8 1#8 65535#16 512#16 1#16) ready).stream 3).quota = 512 := by
  decide +kernel

/-- A write of stream 3 held for ADMISSION under a quota of 1, which its LIVE entry fills. -/
def quotaHeld : State :=
  let s := withHeld [⟨pair 4, .write 9#34, 3, some 42#16, .admission, 0⟩] quietEpoch
  { s with epochs := s.epochs.withStream 3 { s.stream 3 with quota := 1 } }

theorem witness_StreamSetReplaces_ends :
    (∀ i ∈ List.range 5,
      let s := { ending .open i with now := 60 }
      s.linkOpen ∧ s.power.device = .ready ∧ s.noPassOwed ∧ s.wc.hold = [] ∧ (s.stream 3).state = .open
        ∧ s.engine.lingerPending = [] ∧ (6#16).toNat * 10 ≤ (s.stream 3).age.valueAt s.now ∧ meetsCase i s
        ∧ phases (after (.streamSet 3#8 0#8 5#16 512#16 6#16) s) = phasesOf i)
    ∧ (∀ i ∈ List.range 5,
      let s := { committingHeld i with now := 60 }
      s.linkOpen ∧ s.power.device = .ready ∧ s.noPassOwed ∧ (s.stream 3).state = .committing
        ∧ s.wc.hold = [heldWrite .conflict (some 42#16)] ∧ (60#16).toNat ≤ s.now - s.initTime - 0
        ∧ meetsCase i s
        ∧ (after (.streamSet 3#8 0#8 60#16 512#16 0#16) s).wc.hold = [])
    ∧ quotaHeld.linkOpen ∧ quotaHeld.power.device = .ready ∧ quotaHeld.noPassOwed
    ∧ quotaHeld.journal.atLine? 9#34 = none ∧ (2#16).toNat ≠ (quotaHeld.stream 3).quota
    ∧ quotaHeld.canIssue 0
    ∧ (after (.streamSet 3#8 0#8 60#16 1#16 0#16) quotaHeld).heldCount 3 = 1
    ∧ (after (.streamSet 3#8 0#8 60#16 2#16 0#16) quotaHeld).port.issued = [⟨0#6, 9#34, none⟩] := by
  decide +kernel

theorem witness_ClassifierSettings :
    quietEpoch.linkOpen ∧ quietEpoch.power.device = .ready
      ∧ (∃ v : Fin 8, v ≠ 2 ∧ quietEpoch.cls.windows[v].enabled = true
        ∧ 19 < quietEpoch.cls.windows[v].base + quietEpoch.cls.windows[v].count
        ∧ quietEpoch.cls.windows[v].base < 19 + 1)
      ∧ (∃ e ∈ quietEpoch.journal.entries, quietEpoch.cls.windows[(0 : Fin 8)].covers e.line = true)
      ∧ (2 ^ 28 - 1 : Nat) + 1 ≤ 2 ^ 28 ∧ ¬ (2 ^ 28 - 1 : Nat) + 2 ≤ 2 ^ 28
      ∧ (∃ n, quietEpoch.cls.sourceMap[(7 : SourceId)] = some n ∧ (quietEpoch.stream n).state ≠ .closed)
      ∧ ready.cls.sourceMap[(8 : SourceId)] = none ∧ 32 ≤ (32#8).toNat ∧ 9 ≤ (9#8).toNat
      ∧ (after (.regionSet 2#8 1#8 0#8 19#32 1#32) quietEpoch).mgmt.response = some ⟨.badValue, []⟩
      ∧ (after (.regionSet 0#8 0#8 0#8 0#32 16#32) quietEpoch).mgmt.response = some ⟨.busy, []⟩
      ∧ 8 ≤ (8#8).toNat ∧ 2 ≤ (2#8).toNat
      ∧ ([(8#8, 1#8, 0#8), (2#8, 2#8, 0#8), (2#8, 1#8, 2#8)].map fun x => (after
          (.regionSet x.1 x.2.1 x.2.2 19#32 1#32) ready).mgmt.response.map (·.status))
        = List.replicate 3 (some .badValue)
      ∧ (after (.sourceMapSet 7#8 8#8) quietEpoch).mgmt.response = some ⟨.busy, []⟩
      ∧ (after (.sourceMapSet 7#8 8#8) ready).cls.sourceMap[(7 : SourceId)] = none := by decide +kernel

theorem witness_MeterSetReplaces :
    quietEpoch.linkOpen ∧ quietEpoch.power.device = .ready ∧ quietEpoch.noPassOwed
      ∧ quietEpoch.wc.hold = [] ∧ 50 ≤ (1000#16).toNat ∧ (1000#16).toNat % 10 = 0
      ∧ (512#16).toNat ≤ 512 ∧ (55#16).toNat % 10 ≠ 0
      ∧ (after (.meterSet 50#16 0#16 1#16 0#16) quietEpoch).meter.shortfall = true := by decide +kernel

/-- A write of stream 3 held for ADMISSION with no capacity. -/
def admissionHeld : State :=
  withHeld [⟨pair 4, .write 9#34, 3, some 42#16, .admission, 0⟩]
    { quietEpoch with meter := { quietEpoch.meter with cap := 0, shortfall := true } }

theorem witness_MeterSetReplaces_held :
    admissionHeld.linkOpen ∧ admissionHeld.noPassOwed ∧ admissionHeld.power.device = .ready
      ∧ admissionHeld.journal.atLine? 9#34 = none ∧ admissionHeld.canIssue 0
      ∧ (after (.meterSet 50#16 0#16 1#16 1#16) admissionHeld).heldCount 3 = 1
      ∧ (after (.meterSet 50#16 0#16 1#16 2#16) admissionHeld).port.issued = [⟨0#6, 9#34, none⟩] := by
  decide +kernel

theorem witness_TimeoutSetAndLimit :
    ready.linkOpen ∧ ready.power.device = .ready ∧ (255#8 : Byte) ≠ 0#8 ∧ draining.linkOpen
      ∧ draining.power.device = .drain ∧ 47 < 48 := by decide +kernel

theorem witness_AbortByStreamState :
    (∀ x ∈ [(Origin.open, StreamState.open), (.committing, .committing)],
      let s := withStream3 x.2 1 ready
      s.linkOpen ∧ s.power.device = .ready ∧ (s.stream 3).state = x.2 ∧ s.noPassOwed
        ∧ s.wc.hold = [] ∧ s.engineIdle ∧ 0 < (s.stream 3).inFlight)
    ∧ ((withStream3 .rolling 0 ready).stream 3).state = .rolling
    ∧ (State.reset.stream 3).state = .closed ∧ State.reset.power.device = .init
    ∧ draining.power.device = .drain ∧ 8 ≤ (8#8).toNat
    ∧ ((after (.abort 3#8) (openLive 1)).stream 3).state = .rolling
    ∧ (after (.abort 3#8) ready).mgmt.response = some ⟨.noEpoch, []⟩ := by decide +kernel

theorem witness_AbortByStreamState_rolls :
    (∀ i ∈ List.range 5, ∀ x ∈ [(Origin.open, StreamState.open), (.committing, .committing)],
      let s := ending x.2 i
      s.linkOpen ∧ s.power.device = .ready ∧ s.isAt 3 x.1 ∧ s.canRoll 3 ∧ meetsCase i s
        ∧ phases (after (.abort 3#8) s) = phasesOf i)
    ∧ (let t := after (.abort 3#8) (ending .open 3)
      t.engine.positions.map (·.entry) = [4, 2, 0, 3]
        ∧ t.port.issued.map (·.tag) = [44#6, 45#6, 46#6, 47#6]
        ∧ t.port.issued.map (·.line) = [9#34, 7#34, 5#34, 8#34])
    ∧ (committingHeld 4).canRoll 3 ∧ (committingHeld 4).isAt 3 .committing ∧ meetsCase 4 (committingHeld 4)
    ∧ (let t := after (.abort 3#8) (committingHeld 4)
      (t.stream 3).state = .closed ∧ t.wc.hold = []
        ∧ t.host.writeResponses = [⟨pair 1, .lost, false⟩, ⟨pair 8, .lost, false⟩]
        ∧ t.mgmt.events.map (·.detail) = [.cause .mgmt])
    ∧ ((after (.abort 3#8) (ending .open 4)).stream 3).noticeOwed = true := by decide +kernel

theorem witness_ResumeHaltedStream_restores :
    let s := withStream3 .halted 0 (withEntries (fiveEntries .failed) ready)
    s.linkOpen ∧ s.noPassOwed ∧ s.wc.hold = [] ∧ s.engineIdle ∧ s.restoresFree ∧ s.journal.canonical
      ∧ s.journal.newestFirst (fiveNewestFirst .failed) (fun e => e.stream == 3 && e.isIn .failed)
      ∧ (∀ e ∈ fiveNewestFirst .failed, e.inFlight = 0) ∧ fiveNewestFirst .failed ≠ []
      ∧ (after (.resumeRetry 3#8) s).engine.queue.map (·.retrySet) = [[1]]
      ∧ (after (.resumeRetry 3#8) s).engine.positions.map (·.entry) = [4, 2, 0, 3] := by decide +kernel

/-- R84: a RETRY job that leaves its stream HALTED owes no pass, and one that ends the halt owes one. -/
theorem test_retry_end_owes_pass :
    (State.endJob (withEntries [entry3 0 5#34 (.holding .failed zeroBlock)] (retrying true))).wc.passDue
        = false
      ∧ (State.endJob (withEntries [] (retrying true))).wc.passDue = true := by decide +kernel

/-- The job of stream 5, in SETTLE behind a write in flight; stream 3 HALTED with a FAILED entry. -/
def haltedBehind : State :=
  { failedLast with
    epochs := failedLast.epochs.withStream 5 { Stream.por with state := .rolling, inFlight := 1 }
    engine := { failedLast.engine with queue := [⟨.epoch, 5, 1#16, .line, .settle, [], 0, 0, false⟩] } }

theorem witness_ResumeHaltedStream :
    haltedBehind.linkOpen ∧ haltedBehind.power.device = .ready ∧ haltedBehind.noPassOwed
      ∧ haltedBehind.wc.hold = [] ∧ (haltedBehind.stream 3).state = .halted
      ∧ haltedBehind.engine.queue = [⟨.epoch, 5, 1#16, .line, .settle, [], 0, 0, false⟩]
      ∧ haltedBehind.engine.lingerPending = [] ∧ 0 < (haltedBehind.stream 5).inFlight
      ∧ (ready.stream 3).state ≠ .halted
      ∧ haltedBehind.journal.canonical ∧ haltedBehind.withinCeiling
      ∧ (∀ j ∈ haltedBehind.engine.queue, j.stream ≠ 3)
      ∧ ((after (.resumeDiscard 3#8) haltedBehind).stream 3).state = .closed
      ∧ (after (.resumeRetry 3#8) haltedBehind).mgmt.retryOut = [3] := by decide +kernel

theorem witness_EventQueueRecords :
    ready.linkOpen ∧ ready.mgmt.events = []
      ∧ (ready.raise anEvent).mgmt.events = [anEvent]
      ∧ ({ ready.mgmt with events := List.replicate 16 anEvent } : Mgmt).events.length = 16
      ∧ ((Mgmt.record anEvent { ready.mgmt with events := List.replicate 16 anEvent }).flags)
        = 0x0600#16 := by decide +kernel

theorem witness_EventFlags :
    ready.mgmt.flags &&& 0xF800#16 = 0#16 ∧ ready.linkOpen
      ∧ (after (.flagsClear 0x0200#16) (ready.raise anEvent)).mgmt.flags = 0#16 := by decide +kernel

theorem witness_AlertMask :
    off.power.device = .off ∧ ready.power.device ≠ .off
      ∧ (after (.alertMaskSet 0xFFFF#16) (ready.raise anEvent)).alertN = .low
      ∧ ready.alertN = .high := by decide +kernel

theorem witness_CommandsNotTaken :
    (Instr.abort 3#8).isSetting = true ∧ draining.linkIdle ∧ draining.power.device = .drain
      ∧ Instr.restart.isReadyOnly = true ∧ State.reset.linkOpen ∧ State.reset.power.device ≠ .ready
      ∧ Instr.eventNext.isManagement = true ∧ off.power.device = .off := by decide +kernel

end Sys2Proof.Tests
end

section
/-! The bounds of slots, restore positions, event queue, flags and mask: the primitive updates of the
part keep them together with the form of the device state, so every step does (`Kept.step`). -/

namespace Sys2Proof.HostFamily

open Sys2Proof.Machine

/-! ### Reporting: events, flags and mask (R173, R174, R175) -/

/-- No flag of an event lies in an unused position (R179). -/
theorem flag_unused (k : EventKind) : k.flag &&& ~~~usedFlags = 0#16 := by cases k <;> decide

/-- Two words of used flags together name used flags alone. -/
theorem or_unused {a b : BitVec 16} (ha : a &&& ~~~usedFlags = 0#16) (hb : b &&& ~~~usedFlags = 0#16) :
    (a ||| b) &&& ~~~usedFlags = 0#16 := by
  have hdist : (a ||| b) &&& ~~~usedFlags = (a &&& ~~~usedFlags) ||| (b &&& ~~~usedFlags) := by
    ext i hi
    simp [Bool.and_or_distrib_right]
  rw [hdist, ha, hb, BitVec.or_self]

/-- The bounds of the reporting, as a property of the management port (`State.reportingOk`). -/
abbrev Reporting (m : Mgmt) : Prop :=
  m.events.length ≤ eventQueueSize ∧ m.flags &&& ~~~usedFlags = 0#16 ∧ m.mask &&& ~~~usedFlags = 0#16

/-- Raising an event keeps the queue's bound, a full queue taking no record, and sets used flags alone. -/
theorem Reporting.record {m : Mgmt} (e : EventRec) (h : Reporting m) : Reporting (m.record e) := by
  obtain ⟨hl, hf, hm⟩ := h
  have hk := flag_unused e.kind
  have hd : droppedFlag &&& ~~~usedFlags = 0#16 := by decide
  unfold Mgmt.record
  split
  · rename_i hroom
    exact ⟨by simpa using hroom, or_unused hf hk, hm⟩
  · exact ⟨hl, or_unused (or_unused hf hk) hd, hm⟩

/-- After POR nothing is reported. -/
theorem reporting_por (a : BitVec 7) : Reporting (Mgmt.por a) :=
  ⟨Nat.zero_le _, BitVec.zero_and, BitVec.zero_and⟩

/-- INIT keeps what is reported, or clears it. -/
theorem Reporting.atInit {m : Mgmt} (c : Bool) (h : Reporting m) : Reporting (m.atInit c) := by
  cases c
  · exact h
  · exact ⟨Nat.zero_le _, BitVec.zero_and, BitVec.zero_and⟩

/-- Clearing flags sets no unused one. -/
theorem clearFlags_unused {f : BitVec 16} (m : BitVec 16) (hf : f &&& ~~~usedFlags = 0#16) :
    clearFlags f m &&& ~~~usedFlags = 0#16 := by
  unfold clearFlags
  rw [BitVec.and_assoc, BitVec.and_comm (~~~m), ← BitVec.and_assoc, hf, BitVec.zero_and]

/-- The stored mask has its unused positions at 0. -/
theorem storedMask_unused (m : BitVec 16) : storedMask m &&& ~~~usedFlags = 0#16 := by
  unfold storedMask
  rw [BitVec.and_assoc, show usedFlags &&& ~~~usedFlags = 0#16 by decide, BitVec.and_zero]

/-! ### Reserved tags (R111, R113) -/

/-- The state of any reserved tag that the vector names fits it. -/
theorem fitsReserved_of_getElem? {m : MemPort} (h : m.reservedOk) {t : Nat} {x : Tag}
    (ht : m.tags[t]? = some x) (hg : generalTags ≤ t) : x.fitsReserved = true := by
  obtain ⟨hlt, hx⟩ := Vector.getElem?_eq_some_iff.1 ht
  exact hx ▸ h ⟨t, hlt⟩ hg

/-- A tag in use is general or holds a restore write. -/
theorem general_or_restore {m : MemPort} (h : m.reservedOk) {t a l : Nat} {r : Request}
    (ht : m.tags[t]? = some (.inUse r a l)) : t < generalTags ∨ r.isRestore = true := by
  rcases Nat.lt_or_ge t generalTags with hg | hg
  · exact .inl hg
  · exact .inr (fitsReserved_of_getElem? h ht hg)

/-- A tag may take a new state that fits a reserved tag, or any state when it is general. -/
theorem reservedOk_set {m : MemPort} (h : m.reservedOk) {t : Nat} {x : Tag}
    (hx : t < generalTags ∨ x.fitsReserved = true) :
    ({ m with tags := m.tags.setIfInBounds t x } : MemPort).reservedOk := by
  intro i hi
  simp only [Fin.getElem_fin, Vector.getElem_setIfInBounds]
  split
  · rename_i he
    exact hx.resolve_left (by omega)
  · exact h i hi

/-- Cutting the ties of an entry leaves every tag fit for its place. -/
theorem reservedOk_cutTies {m : MemPort} (h : m.reservedOk) (i : Nat) : (m.cutTies i).reservedOk := by
  intro k hk
  have hfit := h k hk
  simp only [MemPort.cutTies, mapVector, Fin.getElem_fin, Vector.getElem_mk, List.getElem_toArray,
    List.getElem_map, Vector.getElem_toList]
  split
  · split
    · rfl
    · exact hfit
  · exact hfit

/-- With every tag free the reserved tags are fit. -/
theorem reservedOk_por : MemPort.por.reservedOk := by decide

/-! ### The form of the device state (R139) -/

/-- An idle store fits every device state. -/
theorem storeOpFits_of_idle {s : State} (h : s.store.op = .idle) : s.storeOpFits = true := by
  unfold State.storeOpFits; rw [h]

/-- A store that is idle, or stands in step 2 of INIT and programs nothing, fits the device state. -/
theorem storeOpFits_of {s : State}
    (h : s.store.op = .idle ∨ (s.power.initStep = some .store ∧ s.store.op.isProgramming = false)) :
    s.storeOpFits = true := by
  unfold State.storeOpFits
  rcases h with h | ⟨hi, hp⟩
  · rw [h]
  · cases ho : s.store.op with
    | idle => rfl
    | scanning => simp [hi]
    | erasing n w => simp [hi]
    | programming n b x => rw [ho] at hp; cases hp

/-- A program fits DRAIN. -/
theorem storeOpFits_programming {s : State} (hd : s.power.device = .drain) (n : Fin 64) (b : Bool)
    (x : Block) (h : s.store.op = .programming n b x) : s.storeOpFits = true := by
  unfold State.storeOpFits; rw [h, hd]; rfl

/-- Outside INIT no step of INIT is present. -/
theorem initStep_none {s : State} (h : s.deviceOk) (hd : s.power.device ≠ .init) :
    s.power.initStep = none := by
  cases hi : s.power.initStep with
  | none => rfl
  | some x => exact absurd (device_of_initStep h hi) hd

/-- Outside DRAIN the drain phase is none. -/
theorem phase_none {s : State} (h : s.deviceOk) (hd : s.power.device ≠ .drain) :
    s.power.phase = .none := by
  by_contra hp
  exact hd (h.2.1.1 hp)

/-- Outside SPENT the settle timer is stopped. -/
theorem settle_none {s : State} (h : s.deviceOk) (hd : s.power.device ≠ .spent) :
    s.power.settleSince = none := by
  cases hs : s.power.settleSince with
  | none => rfl
  | some x => exact absurd (h.2.2.1 (by rw [hs]; rfl)) hd

/-! ### The invariant -/

/-- The bounds, with what is needed to keep them: the form of the device state, and reserved tags for
restore writes alone. -/
abbrev Bounded (s : State) : Prop := s.sizesOk ∧ s.reportingOk ∧ s.deviceOk ∧ s.port.reservedOk

/-- With the host port and the engine cleared no slot and no position is held. -/
theorem sizesOk_cleared {s : State} (hh : s.host = ⟨[], [], [], []⟩) (he : s.engine = Engine.cleared) :
    s.sizesOk := by
  simp [State.sizesOk, hh, he, Engine.cleared]

/-- In OFF and at POR the device state has its form (R141). -/
theorem deviceOk_volatileAtPor {d : DeviceState} {x : Option InitStep} (a : BitVec 7) (s : State)
    (hx : x.isSome = true ↔ d = .init) (hd : d ≠ .drain) : (s.volatileAtPor d x a).deviceOk :=
  ⟨hx, by simp [State.volatileAtPor, Power.por, hd], by simp [State.volatileAtPor, Power.por], rfl⟩

/-- The primitive updates of the data path keep the bounds. -/
theorem bounded_dataKept : DataKept Bounded where
  now _ h := h
  host _ hw hr := fun ⟨⟨w, r, p⟩, h⟩ => ⟨⟨hw.trans w, hr.trans r, p⟩, h⟩
  epochs _ h := h
  wc _ h := h
  raised e := fun ⟨hs, hr, h⟩ => ⟨hs, Reporting.record e hr, h⟩
  retryOut _ h := h
  meter _ h := h
  entry _ _ _ h := h
  removed i := fun ⟨hs, hr, hd, hp⟩ => ⟨hs, hr, hd, reservedOk_cutTies hp i⟩
  created _ _ _ _ _ h := h
  engine g hg := fun ⟨⟨w, r, p⟩, h⟩ => ⟨⟨w, r, hg.elim (·.trans p) id⟩, h⟩
  queue _ h := h
  issued t r ht := fun ⟨hs, hr, hd, hp⟩ => ⟨hs, hr, hd, reservedOk_set hp ht⟩
  tag t x hx := fun ⟨hs, hr, hd, hp⟩ => ⟨hs, hr, hd, reservedOk_set hp (hx.imp_right fun h => by
    rcases h with rfl | rfl <;> rfl)⟩
  commits _ _ h := h

/-- Every primitive update of the part keeps the bounds. -/
theorem bounded_kept : Kept Bounded where
  toDataKept := bounded_dataKept
  device h := h.2.2.1
  reserved h ht := general_or_restore h.2.2.2 ht
  freeCount _ h := h
  pins _ h := h
  bus _ h := h
  tookWrite x _ hl := fun ⟨⟨_, r, p⟩, h⟩ => ⟨⟨by simpa using hl, r, p⟩, h⟩
  tookRead x _ hl := fun ⟨⟨w, _, p⟩, h⟩ => ⟨⟨w, by simpa using hl, p⟩, h⟩
  cls _ h := h
  limit _ h := h
  store st ho := fun ⟨hs, hr, ⟨hi, hph, hse, _⟩, hp⟩ =>
    ⟨hs, hr, ⟨hi, hph, hse, storeOpFits_of ho⟩, hp⟩
  program b x hd := fun ⟨hs, hr, ⟨hi, hph, hse, _⟩, hp⟩ =>
    ⟨hs, hr, ⟨hi, hph, hse, storeOpFits_programming hd _ _ _ rfl⟩, hp⟩
  cause _ h := h
  remembered _ h := h
  phase ph hn hd := fun ⟨hs, hr, ⟨hi, _, hse, ho⟩, hp⟩ =>
    ⟨hs, hr, ⟨hi, by simp [hn, hd], hse, ho⟩, hp⟩
  initStep x hd ho := fun ⟨hs, hr, ⟨_, hph, hse, _⟩, hp⟩ =>
    ⟨hs, hr, ⟨by simp [hd], hph, hse, storeOpFits_of_idle ho⟩, hp⟩
  scan hd := fun ⟨hs, hr, ⟨_, hph, hse, _⟩, hp⟩ => ⟨hs, hr, ⟨by simp [hd], hph, hse, rfl⟩, hp⟩
  toReady hd ho := fun ⟨hs, hr, h, hp⟩ => by
    have hph := phase_none h (by simp [hd])
    have hse := settle_none h (by simp [hd])
    exact ⟨hs, hr, ⟨by simp, by simp [hph], by simp [hse], storeOpFits_of_idle ho⟩, hp⟩
  toDrain c b hd := fun ⟨hs, hr, h, hp⟩ => by
    have hi := initStep_none h (by simp [hd])
    have hse := settle_none h (by simp [hd])
    have ho := storeIdle_of h (by simp [hd]) (by simp [hi])
    exact ⟨hs, hr, ⟨by simp [hi], by simp, by simp [hse], storeOpFits_of_idle ho⟩, hp⟩
  toSpent _ ho := fun ⟨hs, hr, _, hp⟩ =>
    ⟨hs, hr, ⟨by simp, by simp, by simp, storeOpFits_of_idle ho⟩, hp⟩
  settle _ hd := fun ⟨hs, hr, ⟨hi, hph, _, ho⟩, hp⟩ => ⟨hs, hr, ⟨hi, hph, fun _ => hd, ho⟩, hp⟩
  toInit c x _ ho := fun ⟨_, hr, _, _⟩ =>
    ⟨sizesOk_cleared rfl rfl, Reporting.atInit c hr,
      ⟨by simp, by simp [State.clearBlocks], by simp [State.clearBlocks], storeOpFits_of_idle ho⟩,
      reservedOk_por⟩
  por a _ _ := ⟨sizesOk_cleared rfl rfl, reporting_por a, deviceOk_volatileAtPor a _ (by simp) (by simp),
    reservedOk_por⟩
  off a _ := ⟨sizesOk_cleared rfl rfl, reporting_por a, deviceOk_volatileAtPor a _ (by simp) (by simp),
    reservedOk_por⟩
  longOut _ _ h := h
  response _ h := h
  link _ _ _ h := h
  flags m := fun ⟨hs, ⟨hl, hf, hm⟩, h⟩ => ⟨hs, ⟨hl, clearFlags_unused m hf, hm⟩, h⟩
  mask m := fun ⟨hs, ⟨hl, hf, _⟩, h⟩ => ⟨hs, ⟨hl, hf, storedMask_unused m⟩, h⟩
  events e l he := fun ⟨hs, ⟨hl, hf, hm⟩, h⟩ => by
    rw [he] at hl
    exact ⟨hs, ⟨(Nat.le_succ _).trans hl, hf, hm⟩, h⟩

/-- Settles O7: every command keeps the bounds with the form of the device state, whatever the queue. -/
theorem stepKeepsBounds : Obligations.StepKeepsBounds := by
  intro s t hsizes hreporting hdevice hreserved hstep
  obtain ⟨hs, hr, _⟩ := bounded_kept.step (fun _ h => h) ⟨hsizes, hreporting, hdevice, hreserved⟩ hstep
  exact ⟨hs, hr⟩

end Sys2Proof.HostFamily
end

section
/-! The host port's requests and responses, and the classifier's commands: what the port takes from the
bus, what an accepted request does at once, issuing and queueing at the memory port, and answers. -/

namespace Sys2Proof.HostFamily

open Sys2Proof.Machine

/-! ### Requests that wait (R59, R67) -/

/-- The port takes no write outside READY or with every write slot held. -/
theorem acceptWrites_stop {s : State}
    (h : ¬ (s.power.device = .ready ∧ s.host.writeSlots.length < slotsPerKind)) (n : Nat) :
    s.acceptWrites n = s := by
  cases n with
  | zero => rfl
  | succ n =>
    unfold State.acceptWrites
    split
    · rfl
    · rw [if_neg h]

/-- The port takes no read outside READY or with every read slot held. -/
theorem acceptReads_stop {s : State}
    (h : ¬ (s.power.device = .ready ∧ s.host.readSlots.length < slotsPerKind)) (n : Nat) :
    s.acceptReads n = s := by
  cases n with
  | zero => rfl
  | succ n =>
    unfold State.acceptReads
    split
    · rfl
    · rw [if_neg h]

/-- Outside READY the port takes nothing. -/
theorem acceptWaiting_closed {s : State} (h : s.power.device ≠ .ready) : s.acceptWaiting = s := by
  unfold State.acceptWaiting
  rw [acceptWrites_stop (fun hc => h hc.1), acceptReads_stop (fun hc => h hc.1)]

/-- With no read waiting and every write slot held the port takes nothing. -/
theorem acceptWaiting_writesFull {s : State} (hr : s.bus.reads = [])
    (hw : ¬ s.host.writeSlots.length < slotsPerKind) : s.acceptWaiting = s := by
  unfold State.acceptWaiting
  rw [acceptWrites_stop (fun hc => hw hc.2), hr]
  rfl

/-- With no write waiting and every read slot held the port takes nothing. -/
theorem acceptWaiting_readsFull {s : State} (hw : s.bus.writes = [])
    (hr : ¬ s.host.readSlots.length < slotsPerKind) : s.acceptWaiting = s := by
  unfold State.acceptWaiting
  rw [hw]
  exact acceptReads_stop (fun hc => hr hc.2) _

theorem exec_hostWriteRequest (w : WriteReq) (s : State) :
    exec (.hostWriteRequest w) s
      = .next ({ s with bus := { s.bus with writes := s.bus.writes ++ [w] } } : State).acceptWaiting := rfl

theorem exec_hostReadRequest (r : ReadReq) (s : State) :
    exec (.hostReadRequest r) s
      = .next ({ s with bus := { s.bus with reads := s.bus.reads ++ [r] } } : State).acceptWaiting := rfl

/-- Settles O11: a request joins the waiting list of its channel, and the port takes nothing. -/
theorem requestsWait : Obligations.RequestsWait := by
  intro s w r
  have hfull : ∀ {n : Nat}, n = 32 → ¬ n < slotsPerKind := by simp [slotsPerKind]
  refine ⟨fun hd => ⟨?_, ?_⟩, fun hb hl => ?_, fun hb hl => ?_⟩
  · exact congrArg Host.Outcome.next (acceptWaiting_closed hd)
  · exact congrArg Host.Outcome.next (acceptWaiting_closed hd)
  · have hw : s.bus.writes ++ [w] = [w] := by rw [hb.1]; rfl
    rw [exec_hostWriteRequest, hw]
    exact congrArg Host.Outcome.next (acceptWaiting_writesFull hb.2 (hfull hl))
  · have hr : s.bus.reads ++ [r] = [r] := by rw [hb.2]; rfl
    rw [exec_hostReadRequest, hr]
    exact congrArg Host.Outcome.next (acceptWaiting_readsFull hb.1 (hfull hl))

/-! ### Acceptance at once (R59 to R62, R66) -/

/-- A bus with nothing waiting. -/
theorem bus_eq_of_empty {s : State} (h : s.busEmpty) : s.bus = ⟨[], []⟩ := by
  obtain ⟨hw, hr⟩ := h
  calc s.bus = ⟨s.bus.writes, s.bus.reads⟩ := rfl
    _ = _ := by rw [hw, hr]

/-- An open port with a free write slot accepts a write as it is offered. -/
theorem exec_write_accepted {s : State} (w : WriteReq) (h : s.hostOpen)
    (hl : s.host.writeSlots.length < slotsPerKind) :
    exec (.hostWriteRequest w) s = .next (s.acceptWrite w) := by
  obtain ⟨hd, _, hb⟩ := h
  rw [exec_hostWriteRequest, acceptWaiting_write hb hd hl]

/-- An open port with a free read slot accepts a read as it is offered. -/
theorem exec_read_accepted {s : State} (r : ReadReq) (h : s.hostOpen)
    (hl : s.host.readSlots.length < slotsPerKind) :
    exec (.hostReadRequest r) s = .next (s.acceptRead r) := by
  obtain ⟨hd, _, hb⟩ := h
  have hbus := bus_eq_of_empty hb
  have hs : ({ s with bus := ⟨[], []⟩ } : State) = s := by rw [← hbus]
  rw [exec_hostReadRequest, hbus]
  show Host.Outcome.next (State.acceptReads 1 { s with bus := ⟨[], [r]⟩ }) = _
  unfold State.acceptReads
  dsimp only
  rw [if_pos ⟨hd, hl⟩, hs]
  rfl

/-- An act of the class's own, in an open port: where it leaves no pass owed and does not enter DRAIN, the
acceptance is that act. -/
theorem acceptWrite_eq {s : State} {w : WriteReq} {c : WriteClass} {dup : Bool}
    (hdup : s.host.writePairs.contains w.pair = dup) (hc : s.cls.classify w dup = c)
    (hq : (s.actOnClass w dup c).quiet) : s.acceptWrite w = s.actOnClass w dup c := by
  unfold State.acceptWrite
  dsimp only
  rw [hdup, hc, endAct_quiet hq]

/-- The classes whose writes are answered REFUSED at once (Table 3-3). -/
def refuses : WriteClass → Bool
  | .protocolError | .untrackedMarker | .blocked | .untracked => true
  | .marker _ _ | .nullWrite | .passThrough | .journaled _ => false

/-- A write of a class that refuses takes a slot and is answered REFUSED at once; a duplicate is a protocol
error (R60, R61). -/
theorem actOnClass_refuses {c : WriteClass} (w : WriteReq) {dup : Bool} (s : State)
    (hc : refuses c = true) (hd : dup = true → c = .protocolError) :
    s.actOnClass w dup c = s.refuseAtOnce w dup := by
  cases dup with
  | true => rw [hd rfl]; rfl
  | false =>
    cases c with
    | protocolError | untrackedMarker | blocked | untracked => rfl
    | marker | nullWrite | passThrough | journaled => cases hc

/-- A write outside every window is passed through (R62 case 3). -/
theorem classifyByLine_outside {c : Classifier} {w : WriteReq} (h : c.kindAt w.line = none) :
    c.classifyByLine w = .passThrough := by
  unfold Classifier.classifyByLine
  rw [Option.map_eq_none_iff.1 h]

/-- A write into a BLOCK window is blocked (R62 case 4). -/
theorem classifyByLine_block {c : Classifier} {w : WriteReq} (h : c.kindAt w.line = some .block) :
    c.classifyByLine w = .blocked := by
  obtain ⟨win, hw, hk⟩ := Option.map_eq_some_iff.1 h
  unfold Classifier.classifyByLine
  simp only [hw, hk]

/-- A write of an unmapped source into a JOURNAL window is untracked (R62 case 5). -/
theorem classifyByLine_untracked {c : Classifier} {w : WriteReq} (h : c.kindAt w.line = some .journal)
    (hs : c.streamOf w.pair.source = none) : c.classifyByLine w = .untracked := by
  obtain ⟨win, hw, hk⟩ := Option.map_eq_some_iff.1 h
  unfold Classifier.classifyByLine
  simp only [hw, hk, hs]

/-- A write whose mark is NONE is a null write when its mask enables no byte, and else goes by its line. -/
theorem classify_unmarked {c : Classifier} {w : WriteReq} (h : w.mark = .none) :
    c.classify w false = if w.mask = 0#64 then .nullWrite else c.classifyByLine w := by
  unfold Classifier.classify enablesNoByte
  simp only [h, beq_iff_eq, Bool.false_eq_true, if_false]

/-- A COMMIT or ABORT that enables a byte, or whose source maps to no stream, is refused (R61, R62). -/
theorem classify_marker_refuses {c : Classifier} {w : WriteReq} (hm : w.mark = .commit ∨ w.mark = .abort)
    (h : w.mask ≠ 0#64 ∨ c.streamOf w.pair.source = none) : refuses (c.classify w false) = true := by
  have hmarker : ∀ m, refuses (if enablesNoByte w then c.classifyMarker w m else .protocolError) = true := by
    intro m
    by_cases hz : w.mask = 0#64
    · have hn := h.resolve_left (not_not_intro hz)
      simp [enablesNoByte, hz, Classifier.classifyMarker, hn, refuses]
    · simp [enablesNoByte, hz, refuses]
  unfold Classifier.classify
  rcases hm with hm | hm <;> rw [hm] <;> exact hmarker _

/-- Settles O12: a duplicate and a reserved mark are protocol errors, and the other cases are classes that
refuse; the acceptance is the refusal alone. -/
theorem writeRefusedAtOnce : Obligations.WriteRefusedAtOnce := by
  intro s w hopen hl hcase
  have hquiet : ∀ dup, (s.refuseAtOnce w dup).quiet := fun _ => ⟨hopen.2.1, by
    show s.power.device ≠ .drain
    rw [hopen.1]; decide⟩
  rw [exec_write_accepted w hopen hl]
  have haccept : ∀ dup, s.host.writePairs.contains w.pair = dup →
      refuses (s.cls.classify w dup) = true → (dup = true → s.cls.classify w dup = .protocolError) →
      s.acceptWrite w = s.refuseAtOnce w dup := by
    intro dup hdup hc hp
    have hact := actOnClass_refuses w s hc hp
    rw [acceptWrite_eq hdup rfl (hact ▸ hquiet dup), hact]
  by_cases hout : w.pair ∈ s.host.writePairs
  · rw [haccept true (by simpa using hout) rfl (fun _ => rfl)]
    simp [State.refuseAtOnce, hout]
  · have hclass : refuses (s.cls.classify w false) = true := by
      rcases hcase with hc | hmark | ⟨hmark, hc⟩ | ⟨hmark, hmask, hc⟩
      · exact absurd hc hout
      · simp [Classifier.classify, hmark, refuses]
      · exact classify_marker_refuses hmark hc
      · rw [classify_unmarked hmark, if_neg hmask]
        rcases hc with hk | ⟨hk, hs⟩
        · rw [classifyByLine_block hk]; rfl
        · rw [classifyByLine_untracked hk hs]; rfl
    rw [haccept false (by simpa using hout) hclass (fun h => by cases h)]
    simp [State.refuseAtOnce, hout]

/-! ### Issuing and queueing (R112, R113) -/

/-- Nothing is issued while no general tag is free and no restore write can take a reserved one. -/
theorem issueOne_none {s : State} (h : s.queueWaits) : s.issueOne = none := by
  obtain ⟨hg, hr⟩ := h
  unfold State.issueOne
  split
  · rename_i t r ht hq
    rcases hr with hr | hr
    · rw [hr] at ht; cases ht
    · have := hr r (List.mem_of_find?_eq_some hq)
      rw [show r.isRestore = true by simpa using List.find?_some hq] at this
      cases this
  · rw [hg]

/-- With nothing to issue the queue stays. -/
theorem issueWhile_none {s : State} (h : s.issueOne = none) (n : Nat) : s.issueWhile n = s := by
  cases n with
  | zero => rfl
  | succ n => unfold State.issueWhile; rw [h]

/-- A request that finds no tag free joins the young end of the issue queue. -/
theorem enqueueRequest_waits {s : State} {r : Request} (h : s.queueWaits) (hr : r.isRestore = false) :
    s.enqueueRequest r = { s with port := s.port.withQueued r } := by
  obtain ⟨hg, hres⟩ := h
  refine issueWhile_none (s := { s with port := s.port.withQueued r })
    (issueOne_none ⟨hg, hres.imp id fun hq q hm => ?_⟩) _
  rcases List.mem_append.1 hm with hm | hm
  · exact hq q hm
  · rw [List.mem_singleton.1 hm]; exact hr

/-! ### A write under a pair that is not outstanding (R60) -/

/-- No slot but a duplicate holds a pair that is not outstanding. -/
theorem slot_not_of_pair {h : HostPort} {p : Pair} (hp : p ∉ h.writePairs) {x : WriteSlot}
    (hx : x ∈ h.writeSlots) : (x.req.pair == p && !x.duplicate) = false := by
  by_contra hc
  simp only [Bool.not_eq_false, Bool.and_eq_true, beq_iff_eq] at hc
  exact hp (List.mem_map.2 ⟨x, List.mem_filter.2 ⟨hx, hc.2⟩, hc.1⟩)

/-- No slot waits under a pair that is not outstanding. -/
theorem not_awaits_of_pair {h : HostPort} {p : Pair} (hp : p ∉ h.writePairs) {x : WriteSlot}
    (hx : x ∈ h.writeSlots) : x.awaits p = false := by
  simp [WriteSlot.awaits, slot_not_of_pair hp hx]

/-- A write accepted under a new pair and then answered is accepted and answered at once (R58). -/
theorem answerWrite_withWrite {h : HostPort} {w : WriteReq} (hp : w.pair ∉ h.writePairs)
    (st : WriteStatus) : (h.withWrite w).answerWrite w.pair st = h.withAnswered w st := by
  have hnew : (⟨w, false, false⟩ : WriteSlot).awaits w.pair = true := by simp [WriteSlot.awaits]
  have hold : h.writeSlots.map (fun x => if x.awaits w.pair then { x with answered := true } else x)
      = h.writeSlots :=
    (List.map_congr_left fun x hx => by simp [not_awaits_of_pair hp hx]).trans (List.map_id _)
  unfold HostPort.answerWrite HostPort.withWrite HostPort.withAnswered
  simp [hnew, hold]

/-- The data of a write accepted under a new pair are its own (R114). -/
theorem writeData_withWrite {h : HostPort} {w : WriteReq} (hp : w.pair ∉ h.writePairs) :
    (h.withWrite w).writeData w.pair = (w.mask, w.data) := by
  have hold : h.writeSlots.find? (fun x => x.req.pair == w.pair && !x.duplicate) = none :=
    List.find?_eq_none.2 fun x hx => by simp [slot_not_of_pair hp hx]
  unfold HostPort.writeData HostPort.withWrite
  simp [List.find?_append, hold]

/-- The acceptance of a write of a class under a pair that is not outstanding. -/
theorem exec_write_of_class {s : State} {w : WriteReq} {c : WriteClass} (h : s.canTakeWrite w.pair)
    (hc : s.cls.classify w false = c) (hq : (s.actOnClass w false c).quiet) :
    exec (.hostWriteRequest w) s = .next (s.actOnClass w false c) := by
  obtain ⟨hopen, hl, hp⟩ := h
  rw [exec_write_accepted w hopen hl, acceptWrite_eq (by simpa using hp) hc hq]

/-- An open port stands in READY with no pass owed. -/
theorem quiet_of_hostOpen {s : State} (h : s.hostOpen) : s.quiet :=
  ⟨h.2.1, by rw [h.1]; decide⟩

/-- Settles O13: a null write is accepted and answered; a pass-through write is accepted and handed to the
memory port, which issues it on the free tag or keeps it in the queue. -/
theorem nullAndPassThroughWrites : Obligations.NullAndPassThroughWrites := by
  refine ⟨fun s w htake hmark hmask => ?_, fun s w htake hmark hmask hkind => ?_⟩
  · have hc : s.cls.classify w false = .nullWrite := by rw [classify_unmarked hmark, if_pos hmask]
    rw [exec_write_of_class htake hc (quiet_of_hostOpen htake.1)]
    show Host.Outcome.next { s with host := (s.host.withWrite w).answerWrite w.pair .ok } = _
    rw [answerWrite_withWrite htake.2.2]
  · have hc : s.cls.classify w false = .passThrough := by
      rw [classify_unmarked hmark, if_neg hmask, classifyByLine_outside hkind]
    have hquiet := quiet_of_hostOpen htake.1
    constructor
    · intro t hissue
      have hact : s.actOnClass w false .passThrough = { s with
          host := s.host.withWrite w
          port := s.port.withIssued t (.passWrite w.pair w.line) s.now (some (w.mask, w.data)) } := by
        show (s.takeWriteSlot w).enqueueRequest (.passWrite w.pair w.line) = _
        rw [enqueueRequest_issue (s := s.takeWriteSlot w) hissue rfl,
          ← writeData_withWrite (h := s.host) htake.2.2]
        rfl
      rw [exec_write_of_class htake hc (by rw [hact]; exact hquiet), hact]
    · intro hwaits
      have hact : s.actOnClass w false .passThrough = { s with
          host := s.host.withWrite w
          port := s.port.withQueued (.passWrite w.pair w.line) } :=
        enqueueRequest_waits (s := s.takeWriteSlot w) hwaits rfl
      rw [exec_write_of_class htake hc (by rw [hact]; exact hquiet), hact]

/-- Settles O21: the read is accepted at once, and the memory port issues it, queues it, or never sees a
duplicate. -/
theorem readAccepted : Obligations.ReadAccepted := by
  intro s r hopen hl
  rw [exec_read_accepted r hopen hl]
  have hnew : r.pair ∉ s.host.readPairs →
      s.acceptRead r = (s.takeReadSlot r).enqueueRequest (.hostRead r.pair r.line) := by
    intro hp
    unfold State.acceptRead
    rw [if_neg (by simpa using hp)]
  refine ⟨fun t hissue hp => ?_, fun hwaits hp => ?_, fun hp => ?_⟩
  · rw [hnew hp, enqueueRequest_issue (s := s.takeReadSlot r) hissue rfl]
    rfl
  · rw [hnew hp, enqueueRequest_waits (s := s.takeReadSlot r) hwaits rfl]
    rfl
  · unfold State.acceptRead
    rw [if_pos (by simpa using hp)]
    rfl

end Sys2Proof.HostFamily
end

section
/-! Memory's answers to host requests, and the commands of the classifier. -/

namespace Sys2Proof.HostFamily

open Sys2Proof.Machine

/-! ### The free tags (R111) -/

/-- No general tag is offered when each is in use or poisoned. -/
theorem freeGeneral_none_iff {m : MemPort} :
    m.freeGeneral? = none ↔ ∀ t < generalTags, m.tags[t]? ≠ some .free := by
  unfold MemPort.freeGeneral?
  simp [List.find?_eq_none]

/-- With no other general tag free, a general tag set free is the one offered. -/
theorem freeGeneral_setFree {m : MemPort} {k : Nat} (hk : k < generalTags)
    (hn : m.freeGeneral? = none) : (m.withTag k .free).freeGeneral? = some k := by
  have hk48 : k < 48 := hk.trans (by decide)
  unfold MemPort.freeGeneral? MemPort.withTag
  refine List.find?_range_eq_some.2 ⟨by simp [hk48], List.mem_range.2 hk, fun j hj => ?_⟩
  have hfree := freeGeneral_none_iff.1 hn j (hj.trans hk)
  simpa [Vector.getElem?_setIfInBounds, Nat.ne_of_gt hj] using hfree

/-- A tag put in use is not free. -/
theorem freeGeneral_setInUse {m : MemPort} {k : Nat} (r : Request) (a l : Nat)
    (hn : m.freeGeneral? = none) : (m.withTag k (.inUse r a l)).freeGeneral? = none := by
  refine freeGeneral_none_iff.2 fun t ht => ?_
  have hfree := freeGeneral_none_iff.1 hn t ht
  simp only [MemPort.withTag, Vector.getElem?_setIfInBounds]
  split
  · split <;> simp
  · exact hfree

/-- The state of a general tag has no part in which reserved tag is offered. -/
theorem freeReserved_setGeneral (m : MemPort) {k : Nat} (hk : k < generalTags) (x : Tag) :
    (m.withTag k x).freeReserved? = m.freeReserved? := by
  unfold MemPort.freeReserved? MemPort.withTag
  refine List.find?_congr fun t ht => ?_
  have hge : generalTags ≤ t := by
    obtain ⟨i, hi, rfl⟩ := List.mem_iff_getElem.1 ht
    simp
  have hne : k ≠ t := by omega
  simp [hne]

/-- A general tag that becomes free while every other is taken goes to the head of the waiting queue, and
nothing more can be issued (R112). -/
theorem releaseTag_issues {s : State} {k : Nat} {r : Request} {rest : List Request}
    (hk : k < generalTags) (hq : s.port.queue = r :: rest) (hw : s.queueWaits) :
    s.releaseTag k = { s with port := s.port.taking k r rest s } := by
  obtain ⟨hg, hr⟩ := hw
  let v : State := { s with port := s.port.taking k r rest s }
  have hone : (s.setTag k .free).issueOne = some v := by
    have hgen : (s.setTag k .free).port.freeGeneral? = some k := freeGeneral_setFree hk hg
    have hres : (s.setTag k .free).port.freeReserved? = s.port.freeReserved? :=
      freeReserved_setGeneral s.port hk .free
    have hqueue : (s.setTag k .free).port.queue = r :: rest := hq
    unfold State.issueOne
    split
    · rename_i t q ht hfind
      rcases hr with hr | hr
      · rw [hres, hr] at ht; cases ht
      · have := hr q (List.mem_of_find?_eq_some hfind)
        rw [show q.isRestore = true by simpa using List.find?_some hfind] at this
        cases this
    · rw [hgen, hqueue]
      simp only [v, State.issueOn, State.setTag, MemPort.taking, Vector.setIfInBounds_setIfInBounds]
      rfl
  have hwaits : v.queueWaits := by
    refine ⟨freeGeneral_setInUse (m := s.port) r s.now s.port.limit hg, ?_⟩
    refine hr.imp (fun h => ?_) (fun h q hm => ?_)
    · exact (freeReserved_setGeneral s.port hk _).trans h
    · exact h q (by rw [hq]; exact List.mem_cons_of_mem _ hm)
  show (s.setTag k .free).issueWhile s.port.queue.length = v
  rw [hq]
  show (s.setTag k .free).issueWhile (rest.length + 1) = v
  unfold State.issueWhile
  rw [hone]
  exact issueWhile_none (issueOne_none hwaits) _

/-! ### Memory's answers (R115 to R117) -/

/-- A response answers the request that holds its tag. -/
theorem exec_memoryResponse_inUse {s : State} {k : BitVec 6} {r : Request} {a m : Nat}
    (h : s.port.tags[k.toNat]? = some (.inUse r a m)) (st : MemStatus) (d : Block) :
    exec (.memoryResponse k st d) s = .next (s.answeredRequest k.toNat r st d) := by
  show execMemoryResponse k st d s = _
  unfold execMemoryResponse
  rw [h]

/-- With nothing queued a tag that becomes free stays free. -/
theorem releaseTag_free {s : State} (h : s.port.queue = []) (k : Nat) :
    s.releaseTag k = { s with port := s.port.withTag k .free } := offerTags_empty (s := s.setTag k .free) h

/-- The answer OK to a host read settles it with memory's data. -/
theorem answered_hostRead_ok {s : State} {k : Nat} {m : MemPort} (p : Pair) (l : LineAddr) (d : Block)
    (hq : s.quiet) (ht : s.releaseTag k = { s with port := m }) :
    s.answeredRequest k (.hostRead p l) .ok d
      = { s with port := m, host := s.host.answerRead p .ok d } := by
  unfold State.answeredRequest
  dsimp only
  rw [ht]
  exact endAct_quiet hq

/-- The answer OK to a pass-through write settles it. -/
theorem answered_passWrite_ok {s : State} {k : Nat} {m : MemPort} (p : Pair) (l : LineAddr) (d : Block)
    (hq : s.quiet) (ht : s.releaseTag k = { s with port := m }) :
    s.answeredRequest k (.passWrite p l) .ok d
      = { s with port := m, host := s.host.answerWrite p .ok } := by
  unfold State.answeredRequest
  dsimp only
  rw [ht]
  exact endAct_quiet hq

/-- The answer ERROR to a host read settles it with all-00h data and raises MEMORY_ERROR. -/
theorem answered_hostRead_error {s : State} {k : Nat} {m : MemPort} (p : Pair) (l : LineAddr) (d : Block)
    (hq : s.quiet) (ht : s.releaseTag k = { s with port := m }) :
    s.answeredRequest k (.hostRead p l) .error d = { s with
      port := m
      host := s.host.answerRead p .memory zeroBlock
      mgmt := s.mgmt.record ⟨.memoryError, none, none, some l, none, .request .read k⟩ } := by
  unfold State.answeredRequest
  dsimp only
  rw [ht, endAct_quiet (s := State.handBad (.hostRead p l) false { s with port := m }) hq]
  rfl

/-- The answer ERROR to a pass-through write settles it and raises MEMORY_ERROR. -/
theorem answered_passWrite_error {s : State} {k : Nat} {m : MemPort} (p : Pair) (l : LineAddr) (d : Block)
    (hq : s.quiet) (ht : s.releaseTag k = { s with port := m }) :
    s.answeredRequest k (.passWrite p l) .error d = { s with
      port := m
      host := s.host.answerWrite p .memory
      mgmt := s.mgmt.record ⟨.memoryError, none, none, some l, none, .request .pass k⟩ } := by
  unfold State.answeredRequest
  dsimp only
  rw [ht, endAct_quiet (s := State.handBad (.passWrite p l) false { s with port := m }) hq]
  rfl

/-- An answer to a write marks the slots that wait under its pair, and its response joins the young end of
its channel (R58). -/
theorem answerWrite_spec {h : HostPort} {p : Pair} (hx : ∃ x ∈ h.writeSlots, x.awaits p = true)
    (st : WriteStatus) :
    h.answerWrite p st = { h with
      writeSlots := h.writeSlots.map fun x => if x.awaits p then { x with answered := true } else x
      writeResponses := h.writeResponses ++ [⟨p, st, false⟩] } := by
  unfold HostPort.answerWrite
  rw [if_pos (List.any_eq_true.2 hx)]

/-- An answer to a read marks the slots that wait under its pair, and its response joins the young end of
its channel (R57, R58). -/
theorem answerRead_spec {h : HostPort} {p : Pair} (hx : ∃ x ∈ h.readSlots, x.awaits p = true)
    (st : ReadStatus) (d : Block) :
    h.answerRead p st d = { h with
      readSlots := h.readSlots.map fun x => if x.awaits p then { x with answered := true } else x
      readResponses := h.readResponses ++ [⟨p, st, d, false⟩] } := by
  unfold HostPort.answerRead
  rw [if_pos (List.any_eq_true.2 hx)]

/-- A write slot that is marked waits no more, and holds the request it held. -/
theorem writeSlot_marked (p : Pair) (x : WriteSlot) :
    (if x.awaits p then { x with answered := true } else x : WriteSlot).awaits p = false
      ∧ (if x.awaits p then { x with answered := true } else x : WriteSlot).req = x.req := by
  split
  · simp [WriteSlot.awaits]
  · rename_i h
    exact ⟨by simpa using h, rfl⟩

/-- A read slot that is marked waits no more, and holds the request it held. -/
theorem readSlot_marked (p : Pair) (x : ReadSlot) :
    (if x.awaits p then { x with answered := true } else x : ReadSlot).awaits p = false
      ∧ (if x.awaits p then { x with answered := true } else x : ReadSlot).req = x.req := by
  split
  · simp [ReadSlot.awaits]
  · rename_i h
    exact ⟨by simpa using h, rfl⟩

/-- Settles O25: the tag is free or goes to the queue's head, and the request is settled by its kind. -/
theorem hostRequestAnswered : Obligations.HostRequestAnswered := by
  refine ⟨fun s k d p l a m hquiet hq => ?_, fun s k d p l a m r rest hquiet hk hq hw => ?_,
    fun h p st hx => ?_, fun h p st d hx => ?_⟩
  · have hfree := releaseTag_free hq k.toNat
    refine ⟨fun ht => ⟨?_, ?_⟩, fun ht => ⟨?_, ?_⟩⟩ <;> rw [exec_memoryResponse_inUse ht]
    · rw [answered_hostRead_ok p l d hquiet hfree]
    · rw [answered_hostRead_error p l d hquiet hfree]; rfl
    · rw [answered_passWrite_ok p l d hquiet hfree]
    · rw [answered_passWrite_error p l d hquiet hfree]
  · have htaken := releaseTag_issues hk hq hw
    refine ⟨fun ht => ?_, fun ht => ?_⟩ <;> rw [exec_memoryResponse_inUse ht]
    · rw [answered_hostRead_ok p l d hquiet htaken]
    · rw [answered_passWrite_ok p l d hquiet htaken]
  · rw [answerWrite_spec hx]
    refine ⟨rfl, fun y hy => ?_, ?_, rfl, rfl⟩
    · obtain ⟨x, _, rfl⟩ := List.mem_map.1 hy
      exact (writeSlot_marked p x).1
    · rw [List.map_map]
      exact List.map_congr_left fun x _ => (writeSlot_marked p x).2
  · rw [answerRead_spec hx]
    refine ⟨rfl, fun y hy => ?_, ?_, rfl, rfl⟩
    · obtain ⟨x, _, rfl⟩ := List.mem_map.1 hy
      exact (readSlot_marked p x).1
    · rw [List.map_map]
      exact List.map_congr_left fun x _ => (readSlot_marked p x).2

/-! ### Parameters of the classifier's commands (R169, R178) -/

theorem windowParam_lt {w : Byte} (h : w.toNat < 8) : windowParam w = some ⟨w.toNat, h⟩ := dif_pos h

theorem windowParam_ge {w : Byte} (h : 8 ≤ w.toNat) : windowParam w = none := dif_neg (by omega)

theorem windowParam_ofNat (w : Fin 8) : windowParam (BitVec.ofNat 8 w.val) = some w := by
  revert w; decide

theorem sourceParam_ge {x : Byte} (h : 32 ≤ x.toNat) : sourceParam x = none := dif_neg (by omega)

theorem sourceParam_ofNat (x : SourceId) : sourceParam (BitVec.ofNat 8 x.val) = some x := by
  revert x; decide

theorem mapParam_ge {m : Byte} (h : 9 ≤ m.toNat) : mapParam m = none := by
  have hne : m ≠ 0x08#8 := by rintro rfl; simp at h
  have hs : streamParam m = none := dif_neg (by omega)
  unfold mapParam
  rw [if_neg hne, hs]
  rfl

theorem mapParam_mapCode (m : Option StreamId) : mapParam (mapCode m) = some m := by
  revert m; decide

theorem yesNoParam_yesNo (b : Bool) : yesNoParam (yesNo b) = some b := by cases b <;> rfl

theorem yesNoParam_ge {b : Byte} (h : 2 ≤ b.toNat) : yesNoParam b = none := by
  have h0 : b ≠ 0#8 := by rintro rfl; simp at h
  have h1 : b ≠ 1#8 := by rintro rfl; simp at h
  unfold yesNoParam
  rw [if_neg h0, if_neg h1]

theorem kindParam_code (k : WindowKind) : kindParam k.code = some k := by cases k <;> rfl

theorem kindParam_ge {b : Byte} (h : 2 ≤ b.toNat) : kindParam b = none := by
  have h0 : b ≠ 0#8 := by rintro rfl; simp at h
  have h1 : b ≠ 1#8 := by rintro rfl; simp at h
  unfold kindParam
  rw [if_neg h0, if_neg h1]

/-- A window number, an enable byte or a kind out of range spoils REGION_SET's values. -/
theorem regionSetParam_bad {x en kind : Byte} (b c : BitVec 32)
    (h : 8 ≤ x.toNat ∨ 2 ≤ en.toNat ∨ 2 ≤ kind.toNat) : regionSetParam x en kind b c = none := by
  unfold regionSetParam
  rcases h with h | h | h
  · rw [windowParam_ge h]
  · rw [yesNoParam_ge h]
    cases windowParam x <;> rfl
  · rw [kindParam_ge h]
    cases windowParam x <;> cases yesNoParam en <;> rfl

/-- Good codes leave REGION_SET the range check (R64 check 1). -/
theorem regionSetParam_codes (w : Fin 8) (en : Bool) (kind : WindowKind) (b c : BitVec 32) :
    regionSetParam (BitVec.ofNat 8 w.val) (yesNo en) kind.code b c
      = if regionInRange b.toNat c.toNat then some (w, ⟨en, kind, b.toNat, c.toNat⟩) else none := by
  unfold regionSetParam
  rw [windowParam_ofNat, yesNoParam_yesNo, kindParam_code]

/-- A source or a stream out of range spoils SOURCE_MAP_SET's values. -/
theorem sourceMapSetParam_bad {x m : Byte} (h : 32 ≤ x.toNat ∨ 9 ≤ m.toNat) :
    sourceMapSetParam x m = none := by
  unfold sourceMapSetParam
  rcases h with h | h
  · rw [sourceParam_ge h]
  · rw [mapParam_ge h]
    cases sourceParam x <;> rfl

theorem sourceMapSetParam_codes (x : SourceId) (m : Option StreamId) :
    sourceMapSetParam (BitVec.ofNat 8 x.val) (mapCode m) = some (x, m) := by
  unfold sourceMapSetParam
  rw [sourceParam_ofNat, mapParam_mapCode]

/-! ### The classifier's commands (R64, R65, R68) -/

/-- A command taken in the device state with values out of range is BAD_VALUE. -/
theorem judged_none {α : Type} {taken : Bool} (h : taken = true) (f : α → State → State) (s : State) :
    s.judged taken none f = s.respond .badValue [] := by
  unfold State.judged
  rw [if_pos h]

/-- A command taken in the device state with good values is executed. -/
theorem judged_some {α : Type} {taken : Bool} (h : taken = true) (a : α) (f : α → State → State)
    (s : State) : s.judged taken (some a) f = f a s := by
  unfold State.judged
  rw [if_pos h]

/-- INIT and READY take the setting commands (Table 10-3). -/
theorem takesSettings_of {s : State} (h : s.power.device = .init ∨ s.power.device = .ready) :
    s.takesSettings = true := by
  unfold State.takesSettings
  rcases h with h | h <;> rw [h] <;> rfl

theorem exec_regionInfo {s : State} (h : s.linkOpen) (w : Byte) :
    exec (.regionInfo w) s = .next (s.regionInfoCmd w) :=
  congrArg Host.Outcome.next (byFrame_open h _)

theorem exec_sourceMapInfo {s : State} (h : s.linkOpen) :
    exec .sourceMapInfo s = .next s.sourceMapInfoCmd := congrArg Host.Outcome.next (byFrame_open h _)

theorem exec_regionSet {s : State} (h : s.linkOpen) (w en kind : Byte) (b c : BitVec 32) :
    exec (.regionSet w en kind b c) s = .next (s.regionSetCmd w en kind b c) :=
  congrArg Host.Outcome.next (byFrame_open h _)

theorem exec_sourceMapSet {s : State} (h : s.linkOpen) (x m : Byte) :
    exec (.sourceMapSet x m) s = .next (s.sourceMapSetCmd x m) :=
  congrArg Host.Outcome.next (byFrame_open h _)

/-- Settles O49: both commands are read commands, judged by the window number alone. -/
theorem regionAndMapReports : Obligations.RegionAndMapReports := by
  intro s w hlink
  refine ⟨fun hw => ?_, fun hw => ?_, ?_⟩
  · rw [exec_regionInfo hlink]
    unfold State.regionInfoCmd
    rw [windowParam_lt hw, judged_some rfl]
    rfl
  · rw [exec_regionInfo hlink]
    unfold State.regionInfoCmd
    rw [windowParam_ge hw, judged_none rfl]
  · rw [exec_sourceMapInfo hlink]
    refine congrArg (fun l => Host.Outcome.next (s.respond .ok l)) (List.map_congr_left fun x _ => ?_)
    cases x <;> rfl

/-- The range check, as R64 gives it. -/
theorem regionInRange_iff (b c : Nat) :
    regionInRange b c = true ↔ 1 ≤ c ∧ c ≤ 2 ^ 28 ∧ b < 2 ^ 28 ∧ b + c ≤ 2 ^ 28 := by
  simp only [regionInRange, Bool.and_eq_true, decide_eq_true_eq, and_assoc]
  rfl

/-- The overlap check, as R64 gives it. -/
theorem overlaps_iff (c : Classifier) (w : Fin 8) (new : Window) :
    c.overlaps w new = true ↔ new.enabled = true ∧ ∃ v : Fin 8, v ≠ w ∧ c.windows[v].enabled = true
      ∧ new.base < c.windows[v].base + c.windows[v].count
      ∧ c.windows[v].base < new.base + new.count := by
  simp [Classifier.overlaps, Window.shares, and_assoc]

/-- The check of entries, as R64 gives it. -/
theorem entriesInWay_iff (s : State) (w : Fin 8) (new : Window) :
    s.entriesInWay w new = true ↔ ∃ e ∈ s.journal.entries, s.cls.windows[w].covers e.line = true
      ∨ (new.base ≤ e.line.toNat / 64 ∧ e.line.toNat / 64 < new.base + new.count) := by
  simp only [State.entriesInWay, Window.holdsLine, List.any_eq_true, Bool.or_eq_true, Bool.and_eq_true,
    decide_eq_true_eq]
  rfl

/-- A map value is busy when it names a stream that is not CLOSED (R65). -/
theorem namesBusyStream_iff (m : Option StreamId) (s : State) :
    s.namesBusyStream m = true ↔ ∃ n, m = some n ∧ (s.stream n).state ≠ .closed := by
  cases m <;> simp [State.namesBusyStream]

/-- Settles O52: each command is judged by its codes, and then by its checks in their order. -/
theorem classifierSettings : Obligations.ClassifierSettings := by
  refine ⟨fun s w en kind b c hlink hdev => ?_, fun s hlink hdev => ⟨?_, ?_, fun x m => ?_⟩⟩
  · have htaken := takesSettings_of hdev
    intro cmd inRange overlaps inWay
    have hrange := regionInRange_iff b.toNat c.toNat
    have hover := overlaps_iff s.cls w ⟨en, kind, b.toNat, c.toNat⟩
    have hway := entriesInWay_iff s w ⟨en, kind, b.toNat, c.toNat⟩
    have hbad : ¬ inRange → exec cmd s = .next (s.respond .badValue []) := by
      intro h
      rw [exec_regionSet hlink]
      unfold State.regionSetCmd
      rw [regionSetParam_codes, if_neg (mt hrange.1 h), judged_none htaken]
    have hset : inRange → exec cmd s = .next (s.setRegion w ⟨en, kind, b.toNat, c.toNat⟩) := by
      intro h
      rw [exec_regionSet hlink]
      unfold State.regionSetCmd
      rw [regionSetParam_codes, if_pos (hrange.2 h), judged_some htaken]
    refine ⟨hbad, fun hr ho => ?_, fun hr ho hw => ?_, fun hr ho hw => ?_⟩ <;> rw [hset hr] <;>
      unfold State.setRegion
    · rw [if_pos (hover.2 ho)]
    · rw [if_neg (mt hover.1 ho), if_pos (hway.2 hw)]
    · rw [if_neg (mt hover.1 ho), if_neg (mt hway.1 hw)]
      rfl
  · intro x en kind b c h
    rw [exec_regionSet hlink]
    unfold State.regionSetCmd
    rw [regionSetParam_bad b c h, judged_none (takesSettings_of hdev)]
  · intro x m h
    rw [exec_sourceMapSet hlink]
    unfold State.sourceMapSetCmd
    rw [sourceMapSetParam_bad h, judged_none (takesSettings_of hdev)]
  · have hbusy : (s.namesBusyStream s.cls.sourceMap[x] || s.namesBusyStream m) = true
        ↔ (∃ n, s.cls.sourceMap[x] = some n ∧ (s.stream n).state ≠ .closed)
          ∨ ∃ n, m = some n ∧ (s.stream n).state ≠ .closed := by
      rw [Bool.or_eq_true, namesBusyStream_iff, namesBusyStream_iff]
    intro cmd busy
    have hset : exec cmd s = .next (s.setSource x m) := by
      rw [exec_sourceMapSet hlink]
      unfold State.sourceMapSetCmd
      rw [sourceMapSetParam_codes, judged_some (takesSettings_of hdev)]
    rw [hset]
    unfold State.setSource
    refine ⟨fun h => ?_, fun h => ?_⟩
    · rw [if_pos (hbusy.2 h)]
    · rw [if_neg (mt hbusy.1 h)]
      rfl

end Sys2Proof.HostFamily
end

section
/-! What the data path's operations leave of the meter, of the streams' configuration and of the counts of
held slots, said once for each operation, and the frame of the data path's commands outside DRAIN. -/

namespace Sys2Proof.HostFamily

open Sys2Proof.Machine

/-! ### What the data path's operations leave (R26, R59, R127, R128) -/

/-- A stream's configuration (R26). -/
def config (r : Stream) : StreamConfig := ⟨r.policy, r.holdLimit, r.quota, r.ageLimit⟩

/-- What an operation of the data path leaves: the meter but for its shortfall mark, the streams'
configuration, and the counts of held slots. -/
structure Fixture where
  meter : Meter
  configs : StreamId → StreamConfig
  writeSlots : Nat
  readSlots : Nat

/-- The fixture of a state. -/
def fixture (s : State) : Fixture where
  meter := { s.meter with shortfall := false }
  configs n := config (s.stream n)
  writeSlots := s.host.writeSlots.length
  readSlots := s.host.readSlots.length

/-- An update of a stream's record that keeps its configuration keeps the fixture. -/
theorem fixture_setStream {n : StreamId} {r : Stream} {s : State} (h : config r = config (s.stream n)) :
    fixture (s.setStream n r) = fixture s := by
  have hc : (fun m => config ((s.setStream n r).stream m)) = fun m => config (s.stream m) := by
    funext m
    by_cases hm : n = m
    · subst hm
      simpa [State.stream] using h
    · have hv : n.val ≠ m.val := fun hv => hm (Fin.ext hv)
      simp [State.stream, hv]
  simp [fixture, hc]

@[simp] theorem fixture_updStream {n : StreamId} {f : Stream → Stream}
    (hf : ∀ r, (f r).policy = r.policy ∧ (f r).holdLimit = r.holdLimit ∧ (f r).quota = r.quota
      ∧ (f r).ageLimit = r.ageLimit) (s : State) : fixture (s.updStream n f) = fixture s :=
  fixture_setStream (by simp [config, hf])

/-- A list of updates that each keep the fixture keeps it. -/
theorem fixture_foldl {α : Type} {f : State → α → State} (hf : ∀ s a, fixture (f s a) = fixture s)
    (l : List α) (s : State) : fixture (l.foldl f s) = fixture s :=
  kept_foldl (P := fun t => fixture t = fixture s) (fun t a h => (hf t a).trans h) l rfl

/-- A choice between two states with one fixture. -/
@[simp] theorem fixture_ite (c : Prop) [Decidable c] (s t : State) :
    fixture (if c then s else t) = if c then fixture s else fixture t := apply_ite _ _ _ _

/-! ### Machine/Ops.lean -/

@[simp] theorem fixture_raise (e : EventRec) (s : State) : fixture (s.raise e) = fixture s := rfl

@[simp] theorem fixture_advanceTo (t : Nat) (s : State) : fixture (s.advanceTo t) = fixture s := rfl

@[simp] theorem fixture_doom (n : StreamId) (s : State) : fixture (s.doom n) = fixture s := by
  simp [State.doom]

@[simp] theorem fixture_answerWrite (p : Pair) (st : WriteStatus) (s : State) :
    fixture (s.answerWrite p st) = fixture s := by
  simp [fixture, State.stream]

@[simp] theorem fixture_answerRead (p : Pair) (st : ReadStatus) (d : Block) (s : State) :
    fixture (s.answerRead p st d) = fixture s := by
  simp [fixture, State.stream]

@[simp] theorem fixture_updEntry (i : Nat) (f : Entry → Entry) (s : State) :
    fixture (s.updEntry i f) = fixture s := rfl

@[simp] theorem fixture_owePass (s : State) : fixture s.owePass = fixture s := rfl

@[simp] theorem fixture_evalShortfall (s : State) : fixture s.evalShortfall = fixture s := by
  unfold State.evalShortfall
  split
  · split <;> rfl
  · rfl

@[simp] theorem fixture_freeEntry (i : Nat) (s : State) : fixture (s.freeEntry i) = fixture s := by
  simp only [State.freeEntry, fixture_owePass, fixture_evalShortfall]
  rfl

@[simp] theorem fixture_freeEntries (l : List Nat) (s : State) : fixture (s.freeEntries l) = fixture s :=
  fixture_foldl (fun s i => fixture_freeEntry i s) l s

@[simp] theorem fixture_issueOn (t : Nat) (r : Request) (s : State) :
    fixture (s.issueOn t r) = fixture s := rfl

theorem fixture_issueOne {s t : State} (h : s.issueOne = some t) : fixture t = fixture s := by
  unfold State.issueOne at h
  split at h
  · cases h; rfl
  · split at h <;> cases h
    rfl

@[simp] theorem fixture_issueWhile (n : Nat) (s : State) : fixture (s.issueWhile n) = fixture s := by
  induction n generalizing s with
  | zero => rfl
  | succ n ih =>
    unfold State.issueWhile
    split
    · rename_i t ht; rw [ih, fixture_issueOne ht]
    · rfl

@[simp] theorem fixture_offerTags (s : State) : fixture s.offerTags = fixture s := fixture_issueWhile _ s

@[simp] theorem fixture_enqueueRequest (r : Request) (s : State) :
    fixture (s.enqueueRequest r) = fixture s := fixture_offerTags _

@[simp] theorem fixture_submitRestore (r : Request) (s : State) :
    fixture (s.submitRestore r) = fixture s := by
  unfold State.submitRestore
  split <;> simp

@[simp] theorem fixture_setTag (t : Nat) (x : Tag) (s : State) : fixture (s.setTag t x) = fixture s := rfl

@[simp] theorem fixture_releaseTag (t : Nat) (s : State) : fixture (s.releaseTag t) = fixture s := by
  simp [State.releaseTag]

/-! ### Machine/Engine.lean -/

@[simp] theorem fixture_withEngine (g : Engine) (s : State) :
    fixture { s with engine := g } = fixture s := rfl

@[simp] theorem fixture_enqueueJob (k : JobKind) (n : StreamId) (c : RollCause) (s : State) :
    fixture (s.enqueueJob k n c) = fixture s := rfl

@[simp] theorem fixture_advanceJob (s : State) : fixture s.advanceJob = fixture s := by
  unfold State.advanceJob
  split <;> rfl

@[simp] theorem fixture_startRestore (e : Entry) (b : Bool) (s : State) :
    fixture (s.startRestore e b) = fixture s := by
  simp only [State.startRestore, fixture_submitRestore]
  rfl

theorem fixture_fillOne {s t : State} (h : s.fillOne = some t) : fixture t = fixture s := by
  unfold State.fillOne at h
  split at h
  · split at h
    · dsimp only at h
      split at h <;> cases h <;> simp
    · split at h <;> cases h
      simp
  · cases h

@[simp] theorem fixture_fillWhile (n : Nat) (s : State) : fixture (s.fillWhile n) = fixture s := by
  induction n generalizing s with
  | zero => rfl
  | succ n ih =>
    unfold State.fillWhile
    split
    · rename_i t ht; rw [ih, fixture_fillOne ht]
    · rfl

@[simp] theorem fixture_fillPositions (s : State) : fixture s.fillPositions = fixture s :=
  fixture_fillWhile _ s

/-! Entering a state keeps a stream's configuration. -/

@[simp] theorem enter_policy (st : StreamState) (r : Stream) : (r.enter st).policy = r.policy := by
  cases st <;> rfl

@[simp] theorem enter_holdLimit (st : StreamState) (r : Stream) :
    (r.enter st).holdLimit = r.holdLimit := by
  cases st <;> rfl

@[simp] theorem enter_quota (st : StreamState) (r : Stream) : (r.enter st).quota = r.quota := by
  cases st <;> rfl

@[simp] theorem enter_ageLimit (st : StreamState) (r : Stream) :
    (r.enter st).ageLimit = r.ageLimit := by
  cases st <;> rfl

@[simp] theorem fixture_endEpochJob (j : Job) (n : Nat) (s : State) :
    fixture (s.endEpochJob j n) = fixture s := by
  cases hk : (s.stream j.stream).kept <;> simp [State.endEpochJob, hk]

@[simp] theorem fixture_endRetryJob (j : Job) (n : Nat) (s : State) :
    fixture (s.endRetryJob j n) = fixture s := by
  simp [State.endRetryJob]

@[simp] theorem fixture_completeRetry (n : StreamId) (s : State) :
    fixture (s.completeRetry n) = fixture s := rfl

@[simp] theorem fixture_raiseJobEnd (j : Job) (n : Nat) (s : State) :
    fixture (s.raiseJobEnd j n) = fixture s := by
  simp [State.raiseJobEnd]

@[simp] theorem fixture_retryPriorJob (j : Job) (s : State) : fixture (s.retryPriorJob j) = fixture s := by
  simp [State.retryPriorJob]

@[simp] theorem fixture_endJob (s : State) : fixture s.endJob = fixture s := by
  unfold State.endJob
  split
  · rfl
  · rename_i j rest hq
    cases j.kind <;> simp

@[simp] theorem fixture_engineWhile (n : Nat) (s : State) : fixture (s.engineWhile n) = fixture s := by
  induction n generalizing s with
  | zero => rfl
  | succ n ih => simp [State.engineWhile, ih]

@[simp] theorem fixture_runEngine (s : State) : fixture s.runEngine = fixture s := fixture_engineWhile _ s

/-! ### Machine/Epoch.lean -/

@[simp] theorem fixture_openEpoch (n : StreamId) (s : State) : fixture (s.openEpoch n) = fixture s :=
  fixture_updStream (n := n) (f := fun r => { r with
    epoch := r.epoch + 1#16, opening := s.epochs.opening, age := .running s.now, doomed := false
    state := .open }) (by simp) s

@[simp] theorem fixture_withWc (w : WriteCtl) (s : State) : fixture { s with wc := w } = fixture s := rfl

@[simp] theorem fixture_loseMembers (n : StreamId) (s : State) :
    fixture (s.loseMembers n) = fixture s := by
  have hlost := fixture_foldl (f := fun s (it : HeldItem) => s.answerWrite it.pair .lost)
    (fun s it => fixture_answerWrite it.pair .lost s) (s.membersHeld n) s
  simp [State.loseMembers, hlost]

@[simp] theorem fixture_enterRollingQueued (n : StreamId) (c : RollCause) (s : State) :
    fixture (s.enterRollingQueued n c) = fixture s := by
  unfold State.enterRollingQueued
  split
  · rfl
  · simp

@[simp] theorem fixture_enterRolling (n : StreamId) (c : RollCause) (s : State) :
    fixture (s.enterRolling n c) = fixture s := by
  simp [State.enterRolling]

@[simp] theorem fixture_countCommit (s : State) : fixture s.countCommit = fixture s := by
  unfold State.countCommit
  split <;> rfl

@[simp] theorem fixture_commitEpoch (n : StreamId) (s : State) : fixture (s.commitEpoch n) = fixture s := by
  unfold State.commitEpoch
  dsimp only
  split <;> simp

@[simp] theorem fixture_testCommit (n : StreamId) (s : State) : fixture (s.testCommit n) = fixture s := by
  simp [State.testCommit]

@[simp] theorem fixture_giveNotice (n : StreamId) (s : State) : fixture (s.giveNotice n) = fixture s := by
  simp [State.giveNotice]

/-! ### Machine/WriteControl.lean -/

@[simp] theorem fixture_removeHeld (p : Pair) (s : State) : fixture (s.removeHeld p) = fixture s := rfl

@[simp] theorem fixture_placeHeld (it : HeldItem) (s : State) : fixture (s.placeHeld it) = fixture s := by
  simp [State.placeHeld]

@[simp] theorem fixture_answerItem (it : HeldItem) (st : WriteStatus) (s : State) :
    fixture (s.answerItem it st) = fixture s := by
  simp [State.answerItem]

@[simp] theorem fixture_expireItem (it : HeldItem) (s : State) : fixture (s.expireItem it) = fixture s := by
  simp [State.expireItem]

@[simp] theorem fixture_holdItem (b : Bool) (it : HeldItem) (e : Option EpochNo) (r : HoldReason)
    (s : State) : fixture (s.holdItem b it e r) = fixture s := by
  simp [State.holdItem]

@[simp] theorem fixture_createEntry (it : HeldItem) (l : LineAddr) (s : State) :
    fixture (s.createEntry it l) = fixture s := fixture_enqueueRequest _ _

@[simp] theorem fixture_forwardWrite (p : Pair) (n : StreamId) (e : Entry) (s : State) :
    fixture (s.forwardWrite p n e) = fixture s := by
  simp [State.forwardWrite]

@[simp] theorem fixture_applyPolicy (b : Bool) (it : HeldItem) (e : EpochNo) (r : HoldReason)
    (s : State) : fixture (s.applyPolicy b it e r) = fixture s := by
  simp [State.applyPolicy]

@[simp] theorem fixture_memberPath (b : Bool) (it : HeldItem) (l : LineAddr) (s : State) :
    fixture (s.memberPath b it l) = fixture s := by
  unfold State.memberPath
  split
  · simp
  · split <;> simp

@[simp] theorem fixture_writePath (b : Bool) (it : HeldItem) (l : LineAddr) (s : State) :
    fixture (s.writePath b it l) = fixture s := by
  unfold State.writePath
  split
  · simp
  · split <;> simp

@[simp] theorem fixture_keepMarker (n : StreamId) (m : MarkerKind) (p : Pair) (s : State) :
    fixture (s.keepMarker n m p) = fixture s := by
  cases m <;> simp [State.keepMarker]

@[simp] theorem fixture_takeMarker (b : Bool) (it : HeldItem) (m : MarkerKind) (s : State) :
    fixture (s.takeMarker b it m) = fixture s := by
  unfold State.takeMarker
  split <;> simp

@[simp] theorem fixture_itemPath (b : Bool) (it : HeldItem) (s : State) :
    fixture (s.itemPath b it) = fixture s := by
  unfold State.itemPath
  split <;> simp

@[simp] theorem fixture_reexamine (p : Pair) (s : State) : fixture (s.reexamine p) = fixture s := by
  unfold State.reexamine
  split <;> simp

@[simp] theorem fixture_pass (s : State) : fixture s.pass = fixture s :=
  fixture_foldl (fun s p => fixture_reexamine p s) _ s

@[simp] theorem fixture_passWhile (n : Nat) (s : State) : fixture (s.passWhile n) = fixture s := by
  induction n generalizing s with
  | zero => rfl
  | succ n ih => simp [State.passWhile, ih]

@[simp] theorem fixture_runPasses (s : State) : fixture s.runPasses = fixture s := fixture_passWhile _ s

@[simp] theorem fixture_loseItem (it : HeldItem) (s : State) : fixture (s.loseItem it) = fixture s := by
  simp [State.loseItem]

/-! ### Machine/PortOutcomes.lean -/

@[simp] theorem fixture_loseTrigger (n : StreamId) (p : Pair) (s : State) :
    fixture (s.loseTrigger n p) = fixture s := by
  simp [State.loseTrigger]

@[simp] theorem fixture_captureLate (e : Entry) (p : Pair) (s : State) :
    fixture (s.captureLate e p) = fixture s := by
  simp [State.captureLate]

@[simp] theorem fixture_forwardTo (i : Nat) (n : StreamId) (p : Pair) (s : State) :
    fixture (s.forwardTo i n p) = fixture s := by
  unfold State.forwardTo
  split <;> simp

@[simp] theorem fixture_captureOk (i : Nat) (d : Block) (s : State) :
    fixture (s.captureOk i d) = fixture s := by
  unfold State.captureOk
  split
  · rfl
  · rename_i e he
    split
    · rfl
    · split
      · dsimp only
        rw [fixture_owePass, fixture_foldl (fun s it => fixture_forwardTo i e.stream (HeldItem.pair it) s),
          fixture_forwardTo, fixture_updEntry]
      · simp

@[simp] theorem fixture_captureFailed (i : Nat) (s : State) : fixture (s.captureFailed i) = fixture s := by
  unfold State.captureFailed
  split
  · rfl
  · split
    · rfl
    · split
      · dsimp only
        rw [fixture_testCommit, fixture_foldl (fun s it => fixture_loseItem it s), fixture_doom,
          fixture_answerWrite, fixture_freeEntry]
      · simp

@[simp] theorem fixture_forwardEnd (p : Pair) (i : Nat) (n : StreamId) (st : WriteStatus) (b : Bool)
    (s : State) : fixture (s.forwardEnd p i n st b) = fixture s := by
  simp [State.forwardEnd]

@[simp] theorem fixture_freePosition (i : Nat) (s : State) : fixture (s.freePosition i) = fixture s := rfl

@[simp] theorem fixture_countRestoreOk (b : Bool) (s : State) :
    fixture (s.countRestoreOk b) = fixture s := rfl

@[simp] theorem fixture_restoreOk (e : Entry) (b : Bool) (s : State) :
    fixture (s.restoreOk e b) = fixture s := by
  simp [State.restoreOk]

@[simp] theorem fixture_countRestoreFailed (s : State) : fixture s.countRestoreFailed = fixture s := by
  simp [State.countRestoreFailed]

@[simp] theorem fixture_lingerFailed (e : Entry) (s : State) : fixture (s.lingerFailed e) = fixture s := by
  unfold State.lingerFailed
  split <;> simp

@[simp] theorem fixture_restoreFailed (e : Entry) (b : Bool) (s : State) :
    fixture (s.restoreFailed e b) = fixture s := by
  simp [State.restoreFailed]

@[simp] theorem fixture_restoreEnd (i : Nat) (b g : Bool) (s : State) :
    fixture (s.restoreEnd i b g) = fixture s := by
  unfold State.restoreEnd
  split <;> simp

@[simp] theorem fixture_handOk (r : Request) (d : Block) (s : State) : fixture (s.handOk r d) = fixture s := by
  cases r <;> simp [State.handOk]

@[simp] theorem fixture_handBad (r : Request) (b : Bool) (s : State) :
    fixture (s.handBad r b) = fixture s := by
  cases r <;> simp [State.handBad]

@[simp] theorem fixture_lateArrival (t : Tie) (s : State) : fixture (s.lateArrival t) = fixture s := by
  unfold State.lateArrival
  dsimp only
  split
  · split
    · exact (fixture_runEngine _).trans rfl
    · rfl
  · rfl

@[simp] theorem fixture_rollbackAll (s : State) : fixture s.rollbackAll = fixture s :=
  fixture_foldl (fun s n => fixture_enterRolling n .line s) _ s

end Sys2Proof.HostFamily
end

section
/-! The frame of the data path's commands outside DRAIN. -/

namespace Sys2Proof.HostFamily

open Sys2Proof.Machine

/-! ### What the data path does not touch (R63, R139, R154, R172) -/

/-- The parts of `s` that no primitive update of the data path touches outside DRAIN stand in `t`. -/
structure Unmoved (s t : State) : Prop where
  cls : t.cls = s.cls
  power : t.power = s.power
  store : t.store = s.store
  pins : t.pins = s.pins
  initTime : t.initTime = s.initTime
  freeCount : t.freeCount = s.freeCount
  pending : t.pending = s.pending
  response : t.mgmt.response = s.mgmt.response
  mask : t.mgmt.mask = s.mgmt.mask
  receiver : t.mgmt.receiver = s.mgmt.receiver
  address : t.mgmt.address = s.mgmt.address
  acked : t.mgmt.acked = s.mgmt.acked
  sent : t.mgmt.sent = s.mgmt.sent
  restartOut : t.mgmt.restartOut = s.mgmt.restartOut
  calibrateOut : t.mgmt.calibrateOut = s.mgmt.calibrateOut

/-- An event changes flags and event queue alone. -/
theorem record_eq (e : EventRec) (m : Mgmt) :
    m.record e = { m with flags := (m.record e).flags, events := (m.record e).events } := by
  unfold Mgmt.record
  split <;> rfl

theorem Unmoved.raise {s t : State} (h : Unmoved s t) (e : EventRec) : Unmoved s (t.raise e) := by
  unfold State.raise
  rw [record_eq]
  exact { h with }

/-- Outside DRAIN the data path's primitive updates leave the other blocks unmoved. -/
theorem dataKept_unmoved {s : State} (hd : s.power.device ≠ .drain) : DataKept (Unmoved s) where
  now _ h := { h with }
  host _ _ _ h := { h with }
  epochs _ h := { h with }
  wc _ h := { h with }
  raised e h := h.raise e
  retryOut _ h := { h with }
  meter _ h := { h with }
  entry _ _ _ h := { h with }
  removed _ h := { h with }
  created _ _ _ _ _ h := { h with }
  engine _ _ h := { h with }
  queue _ h := { h with }
  issued _ _ _ h := { h with }
  tag _ _ _ h := { h with }
  commits _ hdrain h := absurd (h.power ▸ hdrain) hd

/-! ### Acceptance and the fixture -/

@[simp] theorem fixture_actOnClass (w : WriteReq) (b : Bool) (c : WriteClass) (s : State) :
    fixture (s.actOnClass w b c) = fixture (s.takeWriteSlot w) := by
  have hrefuse : ∀ b, fixture (s.refuseAtOnce w b) = fixture (s.takeWriteSlot w) := by
    intro b
    simp [fixture, State.refuseAtOnce, State.stream]
  cases c <;> simp [State.actOnClass, hrefuse]

@[simp] theorem fixture_acceptRead (r : ReadReq) (s : State) :
    fixture (s.acceptRead r) = fixture (s.takeReadSlot r) := by
  unfold State.acceptRead
  split
  · simp [fixture, State.stream]
  · simp

/-! ### The frame -/

/-- The frame of the data path between two states: the blocks it does not touch, the meter but for its
shortfall mark, and the streams' configuration. -/
structure DataFrame (s t : State) : Prop where
  unmoved : Unmoved s t
  meter : (fixture t).meter = (fixture s).meter
  configs : (fixture t).configs = (fixture s).configs

theorem DataFrame.refl (s : State) : DataFrame s s :=
  ⟨⟨rfl, rfl, rfl, rfl, rfl, rfl, rfl, rfl, rfl, rfl, rfl, rfl, rfl, rfl, rfl⟩, rfl, rfl⟩

namespace DataFrame

variable {s t : State} (h : DataFrame s t)
include h

/-- A further update that leaves the other blocks unmoved and keeps the fixture stays in the frame. -/
theorem extend {u : State} (hu : Unmoved s u) (hf : fixture u = fixture t) : DataFrame s u :=
  ⟨hu, hf ▸ h.meter, hf ▸ h.configs⟩

theorem withBus (b : HostBus) : DataFrame s { t with bus := b } := ⟨{ h.unmoved with }, h.meter, h.configs⟩

theorem withHost (x : HostPort) : DataFrame s { t with host := x } :=
  ⟨{ h.unmoved with }, h.meter, h.configs⟩

variable (hd : s.power.device ≠ .drain)
include hd

theorem endAct : DataFrame s t.endAct := by
  have k := dataKept_unmoved hd
  have hpass := k.runPasses h.unmoved
  rw [endAct_of_notDrain (by rw [hpass.power]; exact hd)]
  exact h.extend (k.runPasses hpass) (by simp)

theorem actOnClass (w : WriteReq) (b : Bool) (c : WriteClass) : DataFrame s (t.actOnClass w b c) := by
  have k := dataKept_unmoved hd
  have htake : DataFrame s (t.takeWriteSlot w) := h.withHost _
  have hu := htake.unmoved
  have hrefuse : ∀ b, Unmoved s (t.refuseAtOnce w b) := fun _ => (h.withHost _).unmoved
  refine htake.extend ?_ (fixture_actOnClass w b c t)
  cases c with
  | protocolError | untrackedMarker | blocked | untracked => exact hrefuse _
  | marker n m => exact k.takeMarker _ _ _ hu
  | nullWrite => exact k.answerWrite _ _ hu
  | passThrough => exact k.enqueueRequest _ hu
  | journaled n => exact k.writePath _ _ _ hu

theorem acceptWrite (w : WriteReq) : DataFrame s (t.acceptWrite w) :=
  (h.actOnClass hd w _ _).endAct hd

theorem acceptRead (r : ReadReq) : DataFrame s (t.acceptRead r) := by
  have htake : DataFrame s (t.takeReadSlot r) := h.withHost _
  refine htake.extend ?_ (fixture_acceptRead r t)
  unfold State.acceptRead
  split
  · exact (h.withHost _).unmoved
  · exact (dataKept_unmoved hd).enqueueRequest _ htake.unmoved

theorem acceptWrites (n : Nat) : DataFrame s (t.acceptWrites n) := by
  induction n generalizing t with
  | zero => exact h
  | succ n ih =>
    unfold State.acceptWrites
    split
    · exact h
    · split
      · exact ih ((h.withBus _).acceptWrite hd _)
      · exact h

theorem acceptReads (n : Nat) : DataFrame s (t.acceptReads n) := by
  induction n generalizing t with
  | zero => exact h
  | succ n ih =>
    unfold State.acceptReads
    split
    · exact h
    · split
      · exact ih ((h.withBus _).acceptRead hd _)
      · exact h

theorem acceptWaiting : DataFrame s t.acceptWaiting := (h.acceptWrites hd _).acceptReads hd _

theorem memoryResponse {u : State} (k : BitVec 6) (st : MemStatus) (d : Block)
    (hu : execMemoryResponse k st d t = .next u) : DataFrame s u := by
  have kept := dataKept_unmoved hd
  have hrel := kept.releaseTag k.toNat h.unmoved
  unfold execMemoryResponse at hu
  split at hu <;> cases hu
  · rename_i r a l _
    unfold State.answeredRequest
    cases st with
    | ok => exact (h.extend (kept.handOk r d hrel) (by simp)).endAct hd
    | error =>
      have hbad := (h.extend (kept.handBad r false hrel) (by simp)).endAct hd
      exact hbad.extend (hbad.unmoved.raise _) rfl
  · rename_i tie _
    unfold State.lateResponse
    cases tie with
    | none => exact (h.extend hrel (by simp)).endAct hd
    | some tie => exact (h.extend (kept.lateArrival tie hrel) (by simp)).endAct hd
  · exact h
  · exact h

theorem responseLimitExpiry {u : State} (k : BitVec 6)
    (hu : execResponseLimitExpiry k t = .next u) : DataFrame s u := by
  have kept := dataKept_unmoved hd
  unfold execResponseLimitExpiry at hu
  split at hu <;> cases hu
  · rename_i r a l hr
    have htag : Unmoved s ((t.advanceTo (a + l)).setTag k.toNat (.poisoned r.tie)) := { h.unmoved with }
    have hbad := (h.extend (kept.handBad r true htag) (by simp)).endAct hd
    exact hbad.extend (hbad.unmoved.raise _) rfl
  all_goals exact h

theorem holdLimitExpiry {u : State} (p : Pair) (hu : execHoldLimitExpiry p t = .next u) :
    DataFrame s u := by
  have kept := dataKept_unmoved hd
  unfold execHoldLimitExpiry at hu
  split at hu
  · split at hu <;> cases hu
    · exact (h.extend (kept.owePass (kept.expireItem _ (kept.advanceTo _ h.unmoved))) (by simp)).endAct hd
    · exact h
  · cases hu
    exact h

theorem ageExpiry {u : State} (n : StreamId) (hu : execAgeExpiry n t = .next u) : DataFrame s u := by
  have kept := dataKept_unmoved hd
  unfold execAgeExpiry at hu
  split at hu <;> cases hu
  · exact (h.extend (kept.enterRolling n .aged (kept.advanceTo _ h.unmoved)) (by simp)).endAct hd
  · exact h

theorem rollbackAll : DataFrame s t.rollbackAll :=
  h.extend (kept_foldl (fun _ n hu => (dataKept_unmoved hd).enterRolling n .line hu) _ h.unmoved)
    (fixture_rollbackAll t)

end DataFrame

/-- Outside DRAIN every command of the data path stays in its frame. -/
theorem dataFrame_exec {c : Instr} {s t : State} (hc : c.isDataPath = true)
    (hd : s.power.device ≠ .drain) (ht : exec c s = .next t) : DataFrame s t := by
  have h := DataFrame.refl s
  cases c with
  | hostWriteRequest w => cases ht; exact (h.withBus _).acceptWaiting hd
  | hostReadRequest r => cases ht; exact (h.withBus _).acceptWaiting hd
  | hostResponseTaken ch => cases ht; exact ((h.withHost _).endAct hd).acceptWaiting hd
  | issueRequest => cases ht; exact h.extend ((dataKept_unmoved hd).offerTags h.unmoved) (by simp)
  | memoryResponse k st d => exact h.memoryResponse hd k st d ht
  | responseLimitExpiry k => exact h.responseLimitExpiry hd k ht
  | holdLimitExpiry p => exact h.holdLimitExpiry hd p ht
  | ageExpiry n => exact h.ageExpiry hd n ht
  | rollbackNAssertion =>
    change execRollbackNAssertion s = _ at ht
    unfold execRollbackNAssertion at ht
    split at ht <;> injection ht with ht <;> rw [← ht]
    · exact (h.rollbackAll hd).endAct hd
    · exact h
  | _ => cases hc

/-- Settles O10: the frame's parts, one by one. -/
theorem dataPathFrame : Obligations.DataPathFrame := by
  intro c s t hc hd ht
  obtain ⟨hu, hmeter, hconfigs⟩ := dataFrame_exec hc hd ht
  have hm : ({ t.meter with shortfall := s.meter.shortfall } : Meter)
      = { s.meter with shortfall := s.meter.shortfall } :=
    congrArg (fun m : Meter => { m with shortfall := s.meter.shortfall }) hmeter
  refine ⟨hu.cls, hu.power, hu.store, hu.pins, hu.initTime, hu.freeCount, hu.pending, hu.response, hu.mask,
    hu.receiver, hu.address, hu.acked, hu.sent, hu.restartOut, hu.calibrateOut, hm, fun n => ?_⟩
  have hn : config (t.stream n) = config (s.stream n) := congrFun hconfigs n
  exact ⟨congrArg StreamConfig.policy hn, congrArg StreamConfig.holdLimit hn,
    congrArg StreamConfig.quota hn, congrArg StreamConfig.ageLimit hn⟩

end Sys2Proof.HostFamily
end

section
/-! The bus plays no part in what the operations behind the acceptance of a write do: with other requests
waiting they do the same. -/

namespace Sys2Proof.HostFamily

open Sys2Proof.Machine

/-! ### The bus replaced -/

/-- The state with other requests waiting on the bus. -/
def withBus (b : HostBus) (s : State) : State := { s with bus := b }

section Reads

variable (b : HostBus) (s : State)

@[simp] theorem bus_now : (withBus b s).now = s.now := rfl
@[simp] theorem bus_host : (withBus b s).host = s.host := rfl
@[simp] theorem bus_cls : (withBus b s).cls = s.cls := rfl
@[simp] theorem bus_journal : (withBus b s).journal = s.journal := rfl
@[simp] theorem bus_engine : (withBus b s).engine = s.engine := rfl
@[simp] theorem bus_port : (withBus b s).port = s.port := rfl
@[simp] theorem bus_power : (withBus b s).power = s.power := rfl
@[simp] theorem bus_stream (n : StreamId) : (withBus b s).stream n = s.stream n := rfl
@[simp] theorem bus_entry (i : Nat) : (withBus b s).entry? i = s.entry? i := rfl
@[simp] theorem bus_streamFailed (n : StreamId) : (withBus b s).streamFailed n = s.streamFailed n := rfl
@[simp] theorem bus_nextJobEntry : (withBus b s).nextJobEntry = s.nextJobEntry := rfl
@[simp] theorem bus_membersHeld (n : StreamId) : (withBus b s).membersHeld n = s.membersHeld n := rfl
@[simp] theorem bus_liveIndexes (n : StreamId) : (withBus b s).liveIndexes n = s.liveIndexes n := rfl
@[simp] theorem bus_heldItem (p : Pair) : (withBus b s).heldItem? p = s.heldItem? p := rfl
@[simp] theorem bus_arrival (p : Pair) (k : HeldKind) (n : StreamId) :
    (withBus b s).arrival p k n = s.arrival p k n := rfl

end Reads

variable (b : HostBus)

/-- A list of updates that each leave the bus out of account does so. -/
theorem bus_foldl {α : Type} {f : State → α → State} (hf : ∀ s a, f (withBus b s) a = withBus b (f s a))
    (l : List α) (s : State) : l.foldl f (withBus b s) = withBus b (l.foldl f s) := by
  induction l generalizing s with
  | nil => rfl
  | cons x xs ih => rw [List.foldl_cons, hf, ih]; rfl

/-- A function passes through a choice when it passes through both branches. -/
theorem ite_through {α β : Type} (g : α → β) {c d : Prop} [Decidable c] [Decidable d] {x y : β} {u v : α}
    (hc : c ↔ d) (hx : x = g u) (hy : y = g v) : (if c then x else y) = g (if d then u else v) := by
  subst hx hy
  by_cases h : d <;> simp [h, hc]

/-- A choice that does not read the bus leaves it out of account when both its states do. -/
theorem bus_ite {c d : Prop} [Decidable c] [Decidable d] {x y u v : State} (hc : c ↔ d)
    (hx : x = withBus b u) (hy : y = withBus b v) :
    (if c then x else y) = withBus b (if d then u else v) := ite_through (withBus b) hc hx hy

variable (s : State)

/-! ### Machine/Ops.lean -/

@[simp] theorem bus_raise (e : EventRec) : (withBus b s).raise e = withBus b (s.raise e) := rfl

@[simp] theorem bus_updStream (n : StreamId) (f : Stream → Stream) :
    (withBus b s).updStream n f = withBus b (s.updStream n f) := rfl

@[simp] theorem bus_doom (n : StreamId) : (withBus b s).doom n = withBus b (s.doom n) := rfl

@[simp] theorem bus_answerWrite (p : Pair) (st : WriteStatus) :
    (withBus b s).answerWrite p st = withBus b (s.answerWrite p st) := rfl

@[simp] theorem bus_updEntry (i : Nat) (f : Entry → Entry) :
    (withBus b s).updEntry i f = withBus b (s.updEntry i f) := rfl

@[simp] theorem bus_owePass : (withBus b s).owePass = withBus b s.owePass := rfl

@[simp] theorem bus_evalShortfall : (withBus b s).evalShortfall = withBus b s.evalShortfall := by
  unfold State.evalShortfall
  exact bus_ite b Iff.rfl (bus_ite b Iff.rfl rfl rfl) rfl

@[simp] theorem bus_freeEntry (i : Nat) : (withBus b s).freeEntry i = withBus b (s.freeEntry i) :=
  congrArg State.owePass (bus_evalShortfall b
    { s with journal := s.journal.removeEntry i, port := s.port.cutTies i })

@[simp] theorem bus_freeEntries (l : List Nat) :
    (withBus b s).freeEntries l = withBus b (s.freeEntries l) :=
  bus_foldl b (fun s i => bus_freeEntry b s i) l s

@[simp] theorem bus_issueOn (t : Nat) (r : Request) :
    (withBus b s).issueOn t r = withBus b (s.issueOn t r) := rfl

theorem bus_issueOne : (withBus b s).issueOne = s.issueOne.map (withBus b) := by
  unfold State.issueOne
  simp only [bus_port]
  split
  · rfl
  · split <;> rfl

@[simp] theorem bus_issueWhile (n : Nat) :
    (withBus b s).issueWhile n = withBus b (s.issueWhile n) := by
  induction n generalizing s with
  | zero => rfl
  | succ n ih =>
    unfold State.issueWhile
    rw [bus_issueOne]
    cases s.issueOne with
    | none => rfl
    | some t => exact ih t

@[simp] theorem bus_offerTags : (withBus b s).offerTags = withBus b s.offerTags := bus_issueWhile b s _

@[simp] theorem bus_enqueueRequest (r : Request) :
    (withBus b s).enqueueRequest r = withBus b (s.enqueueRequest r) :=
  bus_offerTags b { s with port := { s.port with queue := s.port.queue ++ [r] } }

@[simp] theorem bus_submitRestore (r : Request) :
    (withBus b s).submitRestore r = withBus b (s.submitRestore r) := by
  unfold State.submitRestore
  simp only [bus_port]
  split
  · rfl
  · exact bus_enqueueRequest b s r

/-! ### Machine/Engine.lean -/

@[simp] theorem bus_enqueueJob (k : JobKind) (n : StreamId) (c : RollCause) :
    (withBus b s).enqueueJob k n c = withBus b (s.enqueueJob k n c) := rfl

@[simp] theorem bus_advanceJob : (withBus b s).advanceJob = withBus b s.advanceJob := by
  unfold State.advanceJob
  simp only [bus_engine]
  split <;> rfl

@[simp] theorem bus_startRestore (e : Entry) (linger : Bool) :
    (withBus b s).startRestore e linger = withBus b (s.startRestore e linger) :=
  bus_submitRestore b { s.updEntry e.index (Entry.moveTo .restoring) with
    engine := { s.engine with positions := s.engine.positions ++ [⟨e.index, linger⟩] } } _

theorem bus_fillOne : (withBus b s).fillOne = s.fillOne.map (withBus b) := by
  unfold State.fillOne
  refine ite_through (Option.map (withBus b)) Iff.rfl ?_ rfl
  simp only [bus_engine, bus_entry, bus_nextJobEntry]
  split
  · split
    · exact congrArg some (bus_startRestore b { s with engine := _ } _ true)
    · rfl
  · split
    · exact congrArg some (bus_startRestore b { s with engine := _ } _ false)
    · rfl

@[simp] theorem bus_fillWhile (n : Nat) : (withBus b s).fillWhile n = withBus b (s.fillWhile n) := by
  induction n generalizing s with
  | zero => rfl
  | succ n ih =>
    unfold State.fillWhile
    rw [bus_fillOne]
    cases s.fillOne with
    | none => rfl
    | some t => exact ih t

@[simp] theorem bus_fillPositions : (withBus b s).fillPositions = withBus b s.fillPositions :=
  bus_fillWhile b s _

@[simp] theorem bus_endEpochJob (j : Job) (n : Nat) :
    (withBus b s).endEpochJob j n = withBus b (s.endEpochJob j n) := by
  unfold State.endEpochJob
  simp only [bus_stream]
  cases (s.stream j.stream).kept <;> rfl

@[simp] theorem bus_endRetryJob (j : Job) (n : Nat) :
    (withBus b s).endRetryJob j n = withBus b (s.endRetryJob j n) := by
  unfold State.endRetryJob
  exact bus_ite b Iff.rfl rfl rfl

@[simp] theorem bus_completeRetry (n : StreamId) :
    (withBus b s).completeRetry n = withBus b (s.completeRetry n) := rfl

@[simp] theorem bus_raiseJobEnd (j : Job) (n : Nat) :
    (withBus b s).raiseJobEnd j n = withBus b (s.raiseJobEnd j n) := by
  have hlost := bus_ite b (c := j.kind = .epoch ∧ j.cause.raisesLost = true) (y := withBus b s) (v := s)
    Iff.rfl (bus_raise b s ⟨.epochLost, some j.stream, some j.epoch, none, none, .cause j.cause⟩) rfl
  have hhalted := fun t : State =>
    bus_ite b (c := ((withBus b t).stream j.stream).state = .halted) (y := withBus b t) (v := t) Iff.rfl
      (bus_raise b t ⟨.streamHalted, some j.stream, some j.epoch, none, none, .failedCount n⟩) rfl
  unfold State.raiseJobEnd
  dsimp only
  rw [hlost, hhalted]
  exact bus_ite b Iff.rfl rfl rfl

@[simp] theorem bus_retryPriorJob (j : Job) :
    (withBus b s).retryPriorJob j = withBus b (s.retryPriorJob j) := by
  unfold State.retryPriorJob
  exact bus_ite b Iff.rfl rfl rfl

@[simp] theorem bus_endJob : (withBus b s).endJob = withBus b s.endJob := by
  unfold State.endJob
  simp only [bus_engine]
  split
  · rfl
  · rename_i j rest hq
    cases j.kind
    · simp only [bus_streamFailed, bus_endEpochJob, bus_raiseJobEnd]
      exact bus_retryPriorJob b { s.endEpochJob j _ |>.raiseJobEnd j _ with engine := _ } j
    · simp only [bus_streamFailed, bus_endRetryJob, bus_raiseJobEnd]
      exact bus_retryPriorJob b { s.endRetryJob j _ |>.raiseJobEnd j _ with engine := _ } j

@[simp] theorem bus_engineWhile (n : Nat) :
    (withBus b s).engineWhile n = withBus b (s.engineWhile n) := by
  induction n generalizing s with
  | zero => rfl
  | succ n ih =>
    simp only [State.engineWhile, bus_advanceJob, bus_fillPositions]
    refine bus_ite b Iff.rfl ?_ rfl
    rw [bus_endJob, ih]

@[simp] theorem bus_runEngine : (withBus b s).runEngine = withBus b s.runEngine := bus_engineWhile b s _

/-! ### Machine/Epoch.lean -/

@[simp] theorem bus_openEpoch (n : StreamId) : (withBus b s).openEpoch n = withBus b (s.openEpoch n) := rfl

@[simp] theorem bus_loseMembers (n : StreamId) :
    (withBus b s).loseMembers n = withBus b (s.loseMembers n) := by
  have hlost := bus_foldl b (f := fun s (it : HeldItem) => s.answerWrite it.pair .lost)
    (fun _ _ => rfl) (s.membersHeld n) s
  unfold State.loseMembers
  simp only [bus_membersHeld, hlost]
  exact bus_ite b Iff.rfl rfl rfl

@[simp] theorem bus_enterRollingQueued (n : StreamId) (c : RollCause) :
    (withBus b s).enterRollingQueued n c = withBus b (s.enterRollingQueued n c) := by
  unfold State.enterRollingQueued
  simp only [bus_stream]
  split
  · rfl
  · simp

@[simp] theorem bus_enterRolling (n : StreamId) (c : RollCause) :
    (withBus b s).enterRolling n c = withBus b (s.enterRolling n c) := by
  simp [State.enterRolling]

@[simp] theorem bus_countCommit : (withBus b s).countCommit = withBus b s.countCommit := by
  unfold State.countCommit
  exact bus_ite b Iff.rfl rfl rfl

@[simp] theorem bus_commitEpoch (n : StreamId) :
    (withBus b s).commitEpoch n = withBus b (s.commitEpoch n) := by
  unfold State.commitEpoch
  simp only [bus_liveIndexes, bus_freeEntries, bus_stream]
  split <;> simp

@[simp] theorem bus_testCommit (n : StreamId) :
    (withBus b s).testCommit n = withBus b (s.testCommit n) := by
  unfold State.testCommit
  exact bus_ite b Iff.rfl
    (bus_ite b Iff.rfl (bus_ite b Iff.rfl (bus_enterRolling b s n _) rfl) (bus_commitEpoch b s n)) rfl

@[simp] theorem bus_giveNotice (n : StreamId) :
    (withBus b s).giveNotice n = withBus b (s.giveNotice n) := rfl

/-! ### Machine/WriteControl.lean -/

@[simp] theorem bus_removeHeld (p : Pair) : (withBus b s).removeHeld p = withBus b (s.removeHeld p) := rfl

@[simp] theorem bus_placeHeld (it : HeldItem) :
    (withBus b s).placeHeld it = withBus b (s.placeHeld it) := by
  unfold State.placeHeld
  exact bus_ite b Iff.rfl rfl rfl

@[simp] theorem bus_answerItem (it : HeldItem) (st : WriteStatus) :
    (withBus b s).answerItem it st = withBus b (s.answerItem it st) := by
  unfold State.answerItem
  exact bus_ite b Iff.rfl (by simp) rfl

@[simp] theorem bus_expireItem (it : HeldItem) :
    (withBus b s).expireItem it = withBus b (s.expireItem it) := by
  unfold State.expireItem
  dsimp only
  split <;> simp

@[simp] theorem bus_holdItem (held : Bool) (it : HeldItem) (e : Option EpochNo) (r : HoldReason) :
    (withBus b s).holdItem held it e r = withBus b (s.holdItem held it e r) := by
  unfold State.holdItem
  simp only [bus_placeHeld]
  exact bus_ite b Iff.rfl (bus_expireItem b _ _) rfl

@[simp] theorem bus_createEntry (it : HeldItem) (l : LineAddr) :
    (withBus b s).createEntry it l = withBus b (s.createEntry it l) :=
  bus_enqueueRequest b { s.removeHeld it.pair with journal := _ } _

@[simp] theorem bus_forwardWrite (p : Pair) (n : StreamId) (e : Entry) :
    (withBus b s).forwardWrite p n e = withBus b (s.forwardWrite p n e) := by
  simp [State.forwardWrite]

@[simp] theorem bus_applyPolicy (held : Bool) (it : HeldItem) (e : EpochNo) (r : HoldReason) :
    (withBus b s).applyPolicy held it e r = withBus b (s.applyPolicy held it e r) := by
  unfold State.applyPolicy
  exact bus_ite b Iff.rfl (bus_answerItem b s _ _) (bus_holdItem b s _ _ _ _)

@[simp] theorem bus_memberPath (held : Bool) (it : HeldItem) (l : LineAddr) :
    (withBus b s).memberPath held it l = withBus b (s.memberPath held it l) := by
  unfold State.memberPath
  simp only [bus_journal]
  refine bus_ite b Iff.rfl (bus_holdItem b s _ _ _ _) ?_
  split
  · exact bus_ite b Iff.rfl (bus_createEntry b s _ _) (bus_applyPolicy b s _ _ _ _)
  · exact bus_ite b Iff.rfl (bus_forwardWrite b s _ _ _)
      (bus_ite b Iff.rfl (bus_holdItem b s _ _ _ _) (bus_applyPolicy b s _ _ _ _))

@[simp] theorem bus_writePath (held : Bool) (it : HeldItem) (l : LineAddr) :
    (withBus b s).writePath held it l = withBus b (s.writePath held it l) := by
  unfold State.writePath
  simp only [bus_stream]
  refine bus_ite b Iff.rfl (bus_memberPath b s _ _ _) ?_
  split <;> simp

@[simp] theorem bus_keepMarker (n : StreamId) (m : MarkerKind) (p : Pair) :
    (withBus b s).keepMarker n m p = withBus b (s.keepMarker n m p) := by
  cases m <;> simp [State.keepMarker]

@[simp] theorem bus_takeMarker (held : Bool) (it : HeldItem) (m : MarkerKind) :
    (withBus b s).takeMarker held it m = withBus b (s.takeMarker held it m) := by
  unfold State.takeMarker
  simp only [bus_stream]
  split <;> simp

@[simp] theorem bus_itemPath (held : Bool) (it : HeldItem) :
    (withBus b s).itemPath held it = withBus b (s.itemPath held it) := by
  unfold State.itemPath
  split <;> simp

@[simp] theorem bus_reexamine (p : Pair) : (withBus b s).reexamine p = withBus b (s.reexamine p) := by
  unfold State.reexamine
  simp only [bus_heldItem]
  split <;> simp

@[simp] theorem bus_pass : (withBus b s).pass = withBus b s.pass :=
  bus_foldl b (fun s p => bus_reexamine b s p) _ s

@[simp] theorem bus_passWhile (n : Nat) : (withBus b s).passWhile n = withBus b (s.passWhile n) := by
  induction n generalizing s with
  | zero => rfl
  | succ n ih =>
    unfold State.passWhile
    have hpass := bus_pass b { s with wc := { s.wc with passDue := false } }
    exact bus_ite b Iff.rfl ((congrArg (State.passWhile n) hpass).trans (ih _)) rfl

@[simp] theorem bus_runPasses : (withBus b s).runPasses = withBus b s.runPasses := bus_passWhile b s _

/-! ### Machine/Accept.lean -/

@[simp] theorem bus_takeWriteSlot (w : WriteReq) :
    (withBus b s).takeWriteSlot w = withBus b (s.takeWriteSlot w) := rfl

@[simp] theorem bus_takeReadSlot (r : ReadReq) :
    (withBus b s).takeReadSlot r = withBus b (s.takeReadSlot r) := rfl

@[simp] theorem bus_refuseAtOnce (w : WriteReq) (d : Bool) :
    (withBus b s).refuseAtOnce w d = withBus b (s.refuseAtOnce w d) := rfl

@[simp] theorem bus_actOnClass (w : WriteReq) (d : Bool) (c : WriteClass) :
    (withBus b s).actOnClass w d c = withBus b (s.actOnClass w d c) := by
  cases c <;> simp [State.actOnClass]

@[simp] theorem bus_acceptRead (r : ReadReq) :
    (withBus b s).acceptRead r = withBus b (s.acceptRead r) := by
  unfold State.acceptRead
  exact bus_ite b Iff.rfl rfl (by simp)

end Sys2Proof.HostFamily
end

section
/-! The host takes a response: the slot it frees, the waiting request that takes the slot, and the end of
ROLLING_BACK. -/

namespace Sys2Proof.HostFamily

open Sys2Proof.Machine

/-! ### A write accepted with others waiting (R59) -/

/-- Outside DRAIN the end of an act leaves the bus out of account. -/
theorem bus_endAct (b : HostBus) {s : State} (h : s.runPasses.power.device ≠ .drain) :
    (withBus b s).endAct = withBus b s.endAct := by
  rw [endAct_of_notDrain h, endAct_of_notDrain (by simpa using h), bus_runPasses, bus_runPasses]

/-- Outside DRAIN the passes at the end of a write's own act stay outside DRAIN. -/
theorem runPasses_actOnClass_notDrain {s : State} (hd : s.power.device ≠ .drain) (w : WriteReq) (d : Bool)
    (c : WriteClass) : (s.actOnClass w d c).runPasses.power.device ≠ .drain := by
  have hact := ((DataFrame.refl s).actOnClass hd w d c).unmoved
  rw [((dataKept_unmoved hd).runPasses hact).power]
  exact hd

/-- A write is accepted alike whatever else waits on the bus. -/
theorem bus_acceptWrite (b : HostBus) {s : State} (hd : s.power.device ≠ .drain) (w : WriteReq) :
    (withBus b s).acceptWrite w = withBus b (s.acceptWrite w) := by
  unfold State.acceptWrite
  simp only [bus_host, bus_cls, bus_actOnClass]
  exact bus_endAct b (runPasses_actOnClass_notDrain hd w _ _)

/-- An accepted write holds one slot more, and no other slot is freed or taken. -/
theorem fixture_acceptWrite {s : State} (hd : s.power.device ≠ .drain) (w : WriteReq) :
    fixture (s.acceptWrite w) = fixture (s.takeWriteSlot w) := by
  unfold State.acceptWrite
  dsimp only
  rw [endAct_of_notDrain (runPasses_actOnClass_notDrain hd w _ _)]
  simp

/-- The last free write slot goes to the oldest waiting write, and the others go on waiting. -/
theorem acceptWaiting_lastWriteSlot {s : State} (w : WriteReq) (more : List WriteReq)
    (hr : s.power.device = .ready) (hl : s.host.writeSlots.length + 1 = slotsPerKind) :
    (withBus ⟨w :: more, []⟩ s).acceptWaiting = withBus ⟨more, []⟩ (s.acceptWrite w) := by
  have hd : s.power.device ≠ .drain := by rw [hr]; decide
  have hfull : (s.acceptWrite w).host.writeSlots.length = slotsPerKind := by
    have hf := congrArg Fixture.writeSlots (fixture_acceptWrite hd w)
    simpa [fixture, State.takeWriteSlot, hl] using hf
  have hstop := acceptWrites_stop (s := withBus ⟨more, []⟩ (s.acceptWrite w))
    (fun hc => absurd hc.2 (by simp [hfull])) more.length
  show (withBus ⟨w :: more, []⟩ s).acceptWrites (more.length + 1) = _
  unfold State.acceptWrites
  show (if s.power.device = .ready ∧ s.host.writeSlots.length < slotsPerKind then
    ((withBus ⟨more, []⟩ s).acceptWrite w).acceptWrites more.length else _) = _
  rw [if_pos ⟨hr, by omega⟩, bus_acceptWrite _ hd, hstop]

/-- The last free read slot goes to the oldest waiting read, and the others go on waiting. -/
theorem acceptWaiting_lastReadSlot {s : State} (q : ReadReq) (more : List ReadReq)
    (hr : s.power.device = .ready) (hl : s.host.readSlots.length + 1 = slotsPerKind) :
    (withBus ⟨[], q :: more⟩ s).acceptWaiting = withBus ⟨[], more⟩ (s.acceptRead q) := by
  have hfull : (s.acceptRead q).host.readSlots.length = slotsPerKind := by
    have hf := congrArg Fixture.readSlots (fixture_acceptRead q s)
    simpa [fixture, State.takeReadSlot, hl] using hf
  have hstop := acceptReads_stop (s := withBus ⟨[], more⟩ (s.acceptRead q))
    (fun hc => absurd hc.2 (by simp [hfull])) more.length
  show (withBus ⟨[], q :: more⟩ s).acceptReads (more.length + 1) = _
  unfold State.acceptReads
  show (if s.power.device = .ready ∧ s.host.readSlots.length < slotsPerKind then
    ((withBus ⟨[], more⟩ s).acceptRead q).acceptReads more.length else _) = _
  rw [if_pos ⟨hr, by omega⟩, bus_acceptRead, hstop]

/-! ### A response taken (R58, R60) -/

theorem takeWriteResponse_cons {h : HostPort} {r : WriteResponse} {rest : List WriteResponse}
    (hr : h.writeResponses = r :: rest) : h.takeWriteResponse = h.withoutWrite r rest := by
  unfold HostPort.takeWriteResponse
  rw [hr]
  rfl

theorem takeWriteResponse_nil {h : HostPort} (hr : h.writeResponses = []) : h.takeWriteResponse = h := by
  unfold HostPort.takeWriteResponse
  rw [hr]

theorem takeReadResponse_cons {h : HostPort} {r : ReadResponse} {rest : List ReadResponse}
    (hr : h.readResponses = r :: rest) : h.takeReadResponse = h.withoutRead r rest := by
  unfold HostPort.takeReadResponse
  rw [hr]
  rfl

theorem takeReadResponse_nil {h : HostPort} (hr : h.readResponses = []) : h.takeReadResponse = h := by
  unfold HostPort.takeReadResponse
  rw [hr]

/-- The taking of a write response frees one slot. -/
theorem withoutWrite_length {h : HostPort} {r : WriteResponse} {x : WriteSlot} (rest : List WriteResponse)
    (hx : x ∈ h.writeSlots) (hp : x.req.pair = r.pair) (hd : x.duplicate = r.duplicate)
    (ha : x.answered = true) : (h.withoutWrite r rest).writeSlots.length + 1 = h.writeSlots.length := by
  have hlen := List.length_eraseP_of_mem (p := fun x : WriteSlot =>
    x.req.pair == r.pair && x.duplicate == r.duplicate && x.answered) hx (by simp [hp, hd, ha])
  have hpos := List.length_pos_of_mem hx
  simp only [HostPort.withoutWrite, hlen]
  omega

/-- The taking of a read response frees one slot. -/
theorem withoutRead_length {h : HostPort} {r : ReadResponse} {x : ReadSlot} (rest : List ReadResponse)
    (hx : x ∈ h.readSlots) (hp : x.req.pair = r.pair) (hd : x.duplicate = r.duplicate)
    (ha : x.answered = true) : (h.withoutRead r rest).readSlots.length + 1 = h.readSlots.length := by
  have hlen := List.length_eraseP_of_mem (p := fun x : ReadSlot =>
    x.req.pair == r.pair && x.duplicate == r.duplicate && x.answered) hx (by simp [hp, hd, ha])
  have hpos := List.length_pos_of_mem hx
  simp only [HostPort.withoutRead, hlen]
  omega

theorem exec_writeTaken (s : State) : exec (.hostResponseTaken .write) s
    = .next ({ s with host := s.host.takeWriteResponse } : State).endAct.acceptWaiting := rfl

theorem exec_readTaken (s : State) : exec (.hostResponseTaken .read) s
    = .next ({ s with host := s.host.takeReadResponse } : State).endAct.acceptWaiting := rfl

/-- Outside DRAIN, with nothing waiting, the taking changes the host port alone. -/
theorem taken_quiet {s : State} (h : HostPort) (hq : s.quiet) (hb : s.busEmpty) :
    ({ s with host := h } : State).endAct.acceptWaiting = { s with host := h } := by
  rw [endAct_quiet (s := { s with host := h }) hq]
  exact acceptWaiting_empty (s := { s with host := h }) hb

/-- In READY the freed write slot, the only free one, takes the oldest waiting write. -/
theorem taken_admitsWrite {s : State} {w : WriteReq} {more : List WriteReq} (h : HostPort)
    (hd : s.power.device = .ready) (hn : s.noPassOwed) (hbus : s.bus = ⟨w :: more, []⟩)
    (hl : h.writeSlots.length + 1 = slotsPerKind) :
    ({ s with host := h } : State).endAct.acceptWaiting
      = withBus ⟨more, []⟩ (({ s with bus := ⟨[], []⟩, host := h } : State).acceptWrite w) := by
  have hs : ({ s with host := h } : State)
      = withBus ⟨w :: more, []⟩ { s with bus := ⟨[], []⟩, host := h } := by
    simp only [withBus, ← hbus]
  rw [endAct_quiet (s := { s with host := h }) ⟨hn, by simp [hd]⟩, hs]
  exact acceptWaiting_lastWriteSlot (s := { s with bus := ⟨[], []⟩, host := h }) w more hd hl

/-- In READY the freed read slot, the only free one, takes the oldest waiting read. -/
theorem taken_admitsRead {s : State} {q : ReadReq} {more : List ReadReq} (h : HostPort)
    (hd : s.power.device = .ready) (hn : s.noPassOwed) (hbus : s.bus = ⟨[], q :: more⟩)
    (hl : h.readSlots.length + 1 = slotsPerKind) :
    ({ s with host := h } : State).endAct.acceptWaiting
      = withBus ⟨[], more⟩ (({ s with bus := ⟨[], []⟩, host := h } : State).acceptRead q) := by
  have hs : ({ s with host := h } : State)
      = withBus ⟨[], q :: more⟩ { s with bus := ⟨[], []⟩, host := h } := by
    simp only [withBus, ← hbus]
  rw [endAct_quiet (s := { s with host := h }) ⟨hn, by simp [hd]⟩, hs]
  exact acceptWaiting_lastReadSlot (s := { s with bus := ⟨[], []⟩, host := h }) q more hd hl

/-- In SETTLING, with a read unanswered, the taking changes the host port alone (R147). -/
theorem taken_settling {s : State} {h : HostPort} {x : ReadSlot} (hd : s.power.device = .drain)
    (hp : s.power.phase = .settling) (hn : s.noPassOwed) (hx : x ∈ h.readSlots)
    (ha : x.answered = false) :
    ({ s with host := h } : State).endAct.acceptWaiting = { s with host := h } := by
  rw [endAct_settling (s := { s with host := h }) hn hp hx ha]
  exact acceptWaiting_closed (by rw [hd]; decide)

/-! ### The end of ROLLING_BACK (R149, R150) -/

/-- With no work outstanding at the memory port, none is found (R125). -/
theorem outstanding_false {m : MemPort} (h : m.nothingOutstanding) : m.outstanding = false := by
  obtain ⟨hq, ht⟩ := h
  unfold MemPort.outstanding
  rw [hq, List.isEmpty_nil, Bool.not_true, Bool.false_or, List.any_eq_false]
  intro x hx
  obtain ⟨i, hi, rfl⟩ := List.mem_iff_getElem.1 hx
  have hfit := ht ⟨i, by simpa using hi⟩
  simp only [Vector.getElem_toList]
  split
  · rename_i hu
    simp only [Fin.getElem_fin, hu, Tag.isFree, Tag.isPoisoned] at hfit
    cases hfit
  · simp
  · simp

/-- In ROLLING_BACK with all work over, the end of an act hands the END record to a usable store. -/
theorem endAct_recording {s : State} (hd : s.power.device = .drain) (hp : s.power.phase = .rollingBack)
    (hn : s.noPassOwed) (ho : s.rollingBackOver = true) (hu : s.store.usable = true) :
    s.endAct = { s with
      power := { s.power with phase := .recording }
      store := { s.store with op := .programming s.store.next true s.endRecord } } := by
  have hsettling : s.testSettling = s := by
    unfold State.testSettling
    rw [if_neg]
    rintro ⟨_, hc, _⟩
    rw [hp] at hc
    cases hc
  have hrolling : s.testRollingBack = { s with
      power := { s.power with phase := .recording }
      store := { s.store with op := .programming s.store.next true s.endRecord } } := by
    unfold State.testRollingBack State.record State.programRecord
    dsimp only
    rw [if_pos ⟨hd, hp, ho⟩, if_pos hu, if_pos hu]
    rfl
  unfold State.endAct
  rw [runPasses_quiet hn, hsettling, hrolling]
  exact runPasses_quiet hn

/-- Settles O22: the freed slot is taken by the oldest waiting request, whose acceptance does not depend on
what else waits; in DRAIN nothing is taken, and the last response ends ROLLING_BACK. -/
theorem responseTaken : Obligations.ResponseTaken := by
  refine ⟨fun s hq hb => ⟨?_, ?_, ?_, ?_⟩, ?_, ?_, ?_, ?_⟩
  · intro r rest hr
    rw [exec_writeTaken, takeWriteResponse_cons hr, taken_quiet _ hq hb]
    rfl
  · intro r rest hr
    rw [exec_readTaken, takeReadResponse_cons hr, taken_quiet _ hq hb]
    rfl
  · intro hr
    rw [exec_writeTaken, takeWriteResponse_nil hr, taken_quiet _ hq hb]
  · intro hr
    rw [exec_readTaken, takeReadResponse_nil hr, taken_quiet _ hq hb]
  · intro s r rest x w more hd hn hr hx hp hdup ha hl hbus
    have hfree : (s.host.withoutWrite r rest).writeSlots.length + 1 = slotsPerKind :=
      (withoutWrite_length rest hx hp hdup ha).trans hl
    refine ⟨_, exec_write_accepted w ⟨hd, hn, rfl, rfl⟩ ((Nat.lt_succ_self _).trans_eq hfree), ?_⟩
    rw [exec_writeTaken, takeWriteResponse_cons hr, taken_admitsWrite _ hd hn hbus hfree]
    rfl
  · intro s r rest x q more hd hn hr hx hp hdup ha hl hbus
    have hfree : (s.host.withoutRead r rest).readSlots.length + 1 = slotsPerKind :=
      (withoutRead_length rest hx hp hdup ha).trans hl
    refine ⟨_, exec_read_accepted q ⟨hd, hn, rfl, rfl⟩ ((Nat.lt_succ_self _).trans_eq hfree), ?_⟩
    rw [exec_readTaken, takeReadResponse_cons hr, taken_admitsRead _ hd hn hbus hfree]
    rfl
  · intro s x hd hp hn hx ha
    refine ⟨fun r rest hr => ?_, fun r rest hr => ?_⟩
    · have hleft : x ∈ (s.host.withoutWrite r rest).readSlots := hx
      rw [exec_writeTaken, takeWriteResponse_cons hr, taken_settling hd hp hn hleft ha]
    · have hleft : x ∈ (s.host.withoutRead r rest).readSlots :=
        (List.mem_eraseP_of_neg (by simp [ha])).2 hx
      rw [exec_readTaken, takeReadResponse_cons hr, taken_settling hd hp hn hleft ha]
  · intro s r x hd hp hn hengine hport hu hidle hhost hpair hdup ha record
    have htaken : s.host.takeWriteResponse = ⟨[], [], [], []⟩ := by
      rw [takeWriteResponse_cons (r := r) (rest := []) (by rw [hhost])]
      simp [HostPort.withoutWrite, hhost, hpair, hdup, ha]
    have hover : ({ s with host := ⟨[], [], [], []⟩ } : State).rollingBackOver = true := by
      obtain ⟨⟨hqueue, hlinger⟩, hpositions⟩ := hengine
      simp [State.rollingBackOver, Engine.finished, hqueue, hlinger, hpositions,
        outstanding_false hport, hidle, StoreOp.isProgramming]
    rw [exec_writeTaken, htaken, endAct_recording (s := { s with host := ⟨[], [], [], []⟩ }) hd hp hn
      hover hu]
    exact congrArg Host.Outcome.next (acceptWaiting_closed (by simp [hd]))

end Sys2Proof.HostFamily
end

section
/-! No step leaves a re-examination pass owed (R84): an act that owes a pass ends with `State.endAct`, whose
last pass clears the mark (LOG 22), and what stands outside such an act leaves write control as it is or clears
it. `Kept.step` says nothing of this, its properties being kept by every change of write control. -/

namespace Sys2Proof.HoldFamily

open Sys2Proof.Machine

section Acts
variable {s t : State}

/-! ### The end of an act (R84, R85) -/

/-- Passes run until none is owed. -/
theorem passWhile_noPassOwed (n : Nat) (s : State) : (s.passWhile n).noPassOwed := by
  induction n generalizing s with
  | zero => rfl
  | succ n ih =>
    unfold State.passWhile
    split
    · exact ih _
    · rename_i hdue
      exact Bool.eq_false_iff.2 hdue

theorem runPasses_noPassOwed (s : State) : s.runPasses.noPassOwed := passWhile_noPassOwed _ s

/-- Whatever the act owed, nothing is owed when it has ended. -/
theorem endAct_noPassOwed (s : State) : s.endAct.noPassOwed := runPasses_noPassOwed _

/-! ### Operations that leave write control as it is -/

theorem noPassOwed_of_wc (hw : t.wc = s.wc) (h : s.noPassOwed) : t.noPassOwed :=
  (congrArg WriteCtl.passDue hw).trans h

/-! Machine/Ops.lean and Machine/Accept.lean -/

theorem issueOne_wc (h : s.issueOne = some t) : t.wc = s.wc := by
  unfold State.issueOne at h
  split at h
  · cases h; rfl
  · split at h <;> cases h
    rfl

@[simp] theorem issueWhile_wc (n : Nat) (s : State) : (s.issueWhile n).wc = s.wc := by
  induction n generalizing s with
  | zero => rfl
  | succ n ih =>
    unfold State.issueWhile
    split
    · rename_i t ht; rw [ih, issueOne_wc ht]
    · rfl

@[simp] theorem offerTags_wc (s : State) : s.offerTags.wc = s.wc := issueWhile_wc _ s

@[simp] theorem enqueueRequest_wc (r : Request) (s : State) : (s.enqueueRequest r).wc = s.wc := offerTags_wc _

@[simp] theorem acceptRead_wc (r : ReadReq) (s : State) : (s.acceptRead r).wc = s.wc := by
  unfold State.acceptRead
  split <;> simp

/-! Machine/MeterOps.lean and Machine/Timers.lean -/

@[simp] theorem endCalibration_wc (c : Calibration) (a b : Int) (s : State) :
    (s.endCalibration c a b).wc = s.wc := by
  unfold State.endCalibration
  dsimp only
  split <;> rfl

@[simp] theorem afterCalibration_wc (s : State) : s.afterCalibration.wc = s.wc := by
  unfold State.afterCalibration
  split <;> rfl

/-! Machine/Drain.lean -/

@[simp] theorem readSupply_wc (s : State) : s.readSupply.wc = s.wc := by
  unfold State.readSupply
  split <;> rfl

@[simp] theorem startSettle_wc (s : State) : s.startSettle.wc = s.wc := rfl

@[simp] theorem settleCheck_wc (s : State) : s.settleCheck.wc = s.wc := by
  unfold State.settleCheck
  split
  · split
    · split <;> simp
    · rfl
  · rfl

@[simp] theorem wakeMeter_wc (s : State) : s.wakeMeter.wc = s.wc := by
  unfold State.wakeMeter
  split <;> rfl

@[simp] theorem enterSpent_wc (s : State) : s.enterSpent.wc = s.wc := by simp [State.enterSpent]

@[simp] theorem endDrain_wc (s : State) : s.endDrain.wc = s.wc := by
  unfold State.endDrain
  dsimp only
  split <;> simp

/-! Machine/StoreOps.lean -/

@[simp] theorem beginErase_wc (n : Fin 4) (w : EraseWhy) (s : State) : (s.beginErase n w).wc = s.wc := by
  unfold State.beginErase
  rfl

@[simp] theorem finishPreparation_wc (s : State) : s.finishPreparation.wc = s.wc := by
  unfold State.finishPreparation
  rfl

@[simp] theorem prepareRoom_wc (s : State) : s.prepareRoom.wc = s.wc := by
  unfold State.prepareRoom
  split <;> simp

@[simp] theorem prepareRing_wc (s : State) : s.prepareRing.wc = s.wc := by
  unfold State.prepareRing
  split <;> simp

@[simp] theorem repairOrPrepare_wc (s : State) : s.repairOrPrepare.wc = s.wc := by
  unfold State.repairOrPrepare
  split <;> simp

@[simp] theorem endScan_wc (s : State) : s.endScan.wc = s.wc := repairOrPrepare_wc _

@[simp] theorem endErase_wc (n : Fin 4) (w : EraseWhy) (b : Vector Block 16) (s : State) :
    (s.endErase n w b).wc = s.wc := by
  unfold State.endErase
  extract_lets contents erased judged
  have hwc : judged.wc = s.wc := rfl
  clear_value judged
  split
  · cases w with
    | repair => exact (repairOrPrepare_wc judged).trans hwc
    | noErasedSlot => exact (prepareRoom_wc _).trans hwc
    | roomForTwo => exact (finishPreparation_wc judged).trans hwc
  · exact hwc

@[simp] theorem endProgram_wc (i : Fin 64) (b r : Block) (s : State) : (s.endProgram i b r).wc = s.wc := by
  unfold State.endProgram
  dsimp only
  split <;> rfl

@[simp] theorem cutStore_wc (s : State) : s.cutStore.wc = s.wc := by
  unfold State.cutStore
  split <;> rfl

/-! Machine/Init.lean and Machine/Supply.lean -/

@[simp] theorem beginStoreStep_wc (s : State) : s.beginStoreStep.wc = s.wc := by
  unfold State.beginStoreStep
  split <;> rfl

@[simp] theorem storeStepDone_wc (s : State) : s.storeStepDone.wc = s.wc := by
  unfold State.storeStepDone
  split <;> rfl

@[simp] theorem leaveClearStep_wc (s : State) : s.leaveClearStep.wc = s.wc := by
  unfold State.leaveClearStep
  split
  · exact beginStoreStep_wc _
  · rfl

@[simp] theorem cutInit_wc (c : DrainCause) (s : State) : (s.cutInit c).wc = s.wc := by simp [State.cutInit]

@[simp] theorem dropMeterWork_wc (s : State) : s.dropMeterWork.wc = s.wc := by
  unfold State.dropMeterWork
  split
  · rfl
  · split <;> rfl
  · rfl

@[simp] theorem resetReleased_wc (s : State) : s.resetReleased.wc = s.wc := by
  unfold State.resetReleased
  split
  · exact leaveClearStep_wc s
  · rfl

/-! Machine/Commands.lean and Machine/Frames.lean -/

@[simp] theorem setRegion_wc (w : Fin 8) (x : Window) (s : State) : (s.setRegion w x).wc = s.wc := by
  unfold State.setRegion
  split
  · rfl
  · split <;> rfl

@[simp] theorem setSource_wc (x : SourceId) (m : Option StreamId) (s : State) :
    (s.setSource x m).wc = s.wc := by
  unfold State.setSource
  split <;> rfl

@[simp] theorem statusCmd_wc (p : Byte) (s : State) : (s.statusCmd p).wc = s.wc := by
  unfold State.statusCmd
  split
  · rfl
  · split <;> rfl

@[simp] theorem eventNextCmd_wc (s : State) : s.eventNextCmd.wc = s.wc := by
  unfold State.eventNextCmd
  split <;> rfl

@[simp] theorem readFrame_wc (a : Byte) (l : List Bool) (b : Bool) (s : State) :
    (s.readFrame a l b).wc = s.wc := by
  unfold State.readFrame
  split
  · split <;> rfl
  · rfl

/-! ### INIT clears write control (R91) -/

theorem beginInit_noPassOwed (c : Bool) (s : State) : (s.beginInit c).noPassOwed :=
  noPassOwed_of_wc (s := s.clearBlocks c) (leaveClearStep_wc _) rfl

theorem restartInit_noPassOwed (s : State) : s.restartInit.noPassOwed :=
  noPassOwed_of_wc (s := s.clearBlocks true) ((leaveClearStep_wc _).trans (dropMeterWork_wc _)) rfl

/-! ### Acts and what follows them -/

theorem raise_noPassOwed (e : EventRec) (h : s.noPassOwed) : (s.raise e).noPassOwed := h

theorem respond_noPassOwed (st : RespStatus) (p : List Byte) (h : s.noPassOwed) :
    (s.respond st p).noPassOwed := h

theorem acceptWrite_noPassOwed (w : WriteReq) (s : State) : (s.acceptWrite w).noPassOwed :=
  endAct_noPassOwed _

theorem acceptWrites_noPassOwed (n : Nat) (h : s.noPassOwed) : (s.acceptWrites n).noPassOwed := by
  induction n generalizing s with
  | zero => exact h
  | succ n ih =>
    unfold State.acceptWrites
    split
    · exact h
    · split
      · exact ih (acceptWrite_noPassOwed _ _)
      · exact h

theorem acceptReads_wc (n : Nat) (s : State) : (s.acceptReads n).wc = s.wc := by
  induction n generalizing s with
  | zero => rfl
  | succ n ih =>
    unfold State.acceptReads
    split
    · rfl
    · split
      · rw [ih, acceptRead_wc]
      · rfl

/-- Each waiting write the port takes is an act of its own, and no read owes a pass (R59). -/
theorem acceptWaiting_noPassOwed (h : s.noPassOwed) : s.acceptWaiting.noPassOwed :=
  noPassOwed_of_wc (acceptReads_wc _ _) (acceptWrites_noPassOwed _ h)

theorem responseTaken_noPassOwed (ch : Channel) (s : State) : (s.responseTaken ch).noPassOwed :=
  acceptWaiting_noPassOwed (endAct_noPassOwed _)

theorem beginDrain_noPassOwed (c : DrainCause) (s : State) : (s.beginDrain c).noPassOwed :=
  endAct_noPassOwed _

theorem openOrSpend_noPassOwed (h : s.noPassOwed) : s.openOrSpend.noPassOwed := by
  have hread : s.readSupply.noPassOwed := noPassOwed_of_wc (readSupply_wc s) h
  unfold State.openOrSpend
  dsimp only
  split
  · exact noPassOwed_of_wc (cutInit_wc _ _) hread
  · split
    · exact noPassOwed_of_wc (cutInit_wc _ _) hread
    · exact acceptWaiting_noPassOwed hread

theorem afterPublication_noPassOwed (h : s.noPassOwed) : s.afterPublication.noPassOwed := by
  unfold State.afterPublication
  split
  · exact openOrSpend_noPassOwed (raise_noPassOwed _ h)
  · exact h

theorem answeredRequest_noPassOwed (n : Nat) (r : Request) (st : MemStatus) (d : Block) (s : State) :
    (s.answeredRequest n r st d).noPassOwed := by
  cases st with
  | ok => exact endAct_noPassOwed _
  | error => exact raise_noPassOwed _ (endAct_noPassOwed _)

theorem lateResponse_noPassOwed (n : Nat) (x : Option Tie) (s : State) :
    (s.lateResponse n x).noPassOwed := by
  cases x with
  | none => exact endAct_noPassOwed _
  | some tie => exact endAct_noPassOwed _

theorem requestTimedOut_noPassOwed (n : Nat) (r : Request) (s : State) :
    (s.requestTimedOut n r).noPassOwed := raise_noPassOwed _ (endAct_noPassOwed _)

/-! ### Management commands and frames -/

theorem judged_noPassOwed {α : Type} {taken : Bool} {v : Option α} {f : α → State → State}
    (h : s.noPassOwed) (hf : ∀ a, (f a s).noPassOwed) : (s.judged taken v f).noPassOwed := by
  unfold State.judged
  split
  · split
    · exact hf _
    · exact respond_noPassOwed _ _ h
  · exact respond_noPassOwed _ _ h

theorem setStreamConfig_noPassOwed (n : StreamId) (c : StreamConfig) (s : State) :
    (s.setStreamConfig n c).noPassOwed := endAct_noPassOwed _

theorem setMeterConfig_noPassOwed (c : MeterConfig) (s : State) : (s.setMeterConfig c).noPassOwed :=
  endAct_noPassOwed _

theorem abortStream_noPassOwed (n : StreamId) (h : s.noPassOwed) : (s.abortStream n).noPassOwed := by
  unfold State.abortStream
  split
  · exact respond_noPassOwed _ _ (endAct_noPassOwed _)
  · exact respond_noPassOwed _ _ (endAct_noPassOwed _)
  all_goals exact respond_noPassOwed _ _ h

theorem beginRetry_noPassOwed (n : StreamId) (s : State) : (s.beginRetry n).noPassOwed :=
  endAct_noPassOwed _

theorem discardFailed_noPassOwed (n : StreamId) (s : State) : (s.discardFailed n).noPassOwed :=
  endAct_noPassOwed _

theorem resumeRetryCmd_noPassOwed (n : Byte) (h : s.noPassOwed) : (s.resumeRetryCmd n).noPassOwed := by
  refine judged_noPassOwed h fun n => ?_
  split
  · exact respond_noPassOwed _ _ (beginRetry_noPassOwed n s)
  · exact respond_noPassOwed _ _ h

theorem resumeDiscardCmd_noPassOwed (n : Byte) (h : s.noPassOwed) :
    (s.resumeDiscardCmd n).noPassOwed := by
  refine judged_noPassOwed h fun n => ?_
  split
  · exact respond_noPassOwed _ _ (discardFailed_noPassOwed n s)
  · exact respond_noPassOwed _ _ h

theorem calibrateCmd_noPassOwed (h : s.noPassOwed) : s.calibrateCmd.noPassOwed := by
  refine judged_noPassOwed h fun _ => ?_
  split
  all_goals exact respond_noPassOwed _ _ h

theorem outcomeCmd_noPassOwed (b : Byte) (h : s.noPassOwed) : (s.outcomeCmd b).noPassOwed := by
  refine judged_noPassOwed h fun _ => ?_
  split
  all_goals exact respond_noPassOwed _ _ h

/-- A management command runs the pass it owes before it is answered. -/
theorem runCommand_noPassOwed (i : Instr) (h : s.noPassOwed) : (s.runCommand i).noPassOwed := by
  cases i with
  | status p => exact noPassOwed_of_wc (statusCmd_wc p s) h
  | eventNext => exact noPassOwed_of_wc (eventNextCmd_wc s) h
  | sourceMapInfo | flagsClear | alertMaskSet => exact respond_noPassOwed _ _ h
  | streamInfo | regionInfo | failedList | entryImage | timeoutSet =>
    exact judged_noPassOwed h fun _ => respond_noPassOwed _ _ h
  | outcome b => exact outcomeCmd_noPassOwed b h
  | calibrate => exact calibrateCmd_noPassOwed h
  | regionSet => exact judged_noPassOwed h fun v => noPassOwed_of_wc (setRegion_wc v.1 v.2 s) h
  | sourceMapSet => exact judged_noPassOwed h fun v => noPassOwed_of_wc (setSource_wc v.1 v.2 s) h
  | streamSet =>
    exact judged_noPassOwed h fun v => respond_noPassOwed _ _ (setStreamConfig_noPassOwed v.1 v.2 s)
  | meterSet => exact judged_noPassOwed h fun c => respond_noPassOwed _ _ (setMeterConfig_noPassOwed c s)
  | abort => exact judged_noPassOwed h fun n => abortStream_noPassOwed n h
  | resumeRetry n => exact resumeRetryCmd_noPassOwed n h
  | resumeDiscard n => exact resumeDiscardCmd_noPassOwed n h
  | restart => exact judged_noPassOwed h fun _ => respond_noPassOwed _ _ (beginDrain_noPassOwed _ _)
  | _ => exact h

theorem judgeFrame_noPassOwed (a : Byte) (l : List Byte) (b : Bool) (h : s.noPassOwed) :
    (s.judgeFrame a l b).noPassOwed := by
  unfold State.judgeFrame
  split
  · exact h
  · exact respond_noPassOwed _ _ h
  · unfold State.runFrame
    split
    · exact runCommand_noPassOwed _ h
    · exact judged_noPassOwed h fun _ => h

theorem endFrame_noPassOwed (h : s.noPassOwed) : s.endFrame.noPassOwed := by
  unfold State.endFrame
  split
  · exact h
  · exact judgeFrame_noPassOwed _ _ _ h
  · exact h

theorem byFrame_noPassOwed (i : Instr) (h : s.noPassOwed) : (s.byFrame i).noPassOwed := by
  unfold State.byFrame
  split
  · exact h
  · exact runCommand_noPassOwed i (endFrame_noPassOwed h)

theorem requestFrame_noPassOwed (a : Byte) (l : List Byte) (b : Bool) (h : s.noPassOwed) :
    (s.requestFrame a l b).noPassOwed := by
  unfold State.requestFrame State.takeRequest
  split
  · split
    · dsimp only
      split
      · exact judgeFrame_noPassOwed _ _ _ h
      · exact h
    · exact h
  · exact h

/-! ### Every command -/

theorem memoryResponse_noPassOwed (tag : BitVec 6) (st : MemStatus) (d : Block) (h : s.noPassOwed)
    (ht : execMemoryResponse tag st d s = .next t) : t.noPassOwed := by
  unfold execMemoryResponse at ht
  split at ht <;> cases ht
  · exact answeredRequest_noPassOwed _ _ _ _ _
  · exact lateResponse_noPassOwed _ _ _
  · exact h
  · exact h

theorem responseLimitExpiry_noPassOwed (tag : BitVec 6) (h : s.noPassOwed)
    (ht : execResponseLimitExpiry tag s = .next t) : t.noPassOwed := by
  unfold execResponseLimitExpiry at ht
  split at ht <;> cases ht
  · exact requestTimedOut_noPassOwed _ _ _
  all_goals exact h

theorem holdLimitExpiry_noPassOwed (p : Pair) (h : s.noPassOwed)
    (ht : execHoldLimitExpiry p s = .next t) : t.noPassOwed := by
  unfold execHoldLimitExpiry at ht
  split at ht
  · split at ht
    · rw [← Host.Outcome.next.inj ht]
      exact endAct_noPassOwed _
    · cases ht; exact h
  · cases ht; exact h

theorem ageExpiry_noPassOwed (n : StreamId) (h : s.noPassOwed)
    (ht : execAgeExpiry n s = .next t) : t.noPassOwed := by
  unfold execAgeExpiry at ht
  split at ht <;> cases ht
  · exact endAct_noPassOwed _
  · exact h

theorem rollbackNAssertion_noPassOwed (h : s.noPassOwed)
    (ht : execRollbackNAssertion s = .next t) : t.noPassOwed := by
  unfold execRollbackNAssertion at ht
  split at ht
  · rw [← Host.Outcome.next.inj ht]
    exact endAct_noPassOwed s.rollbackAll
  · rw [← Host.Outcome.next.inj ht]
    exact h

theorem surveyEnd_noPassOwed (raw : BitVec 16) (h : s.noPassOwed)
    (ht : execSurveyEnd raw s = .next t) : t.noPassOwed := by
  unfold execSurveyEnd at ht
  split at ht
  · rw [← Host.Outcome.next.inj ht]
    exact afterPublication_noPassOwed (endAct_noPassOwed _)
  all_goals
    cases ht
    exact h

theorem zeroSurveyEnd_noPassOwed (r : BitVec 16) (h : s.noPassOwed)
    (ht : execZeroSurveyEnd r s = .next t) : t.noPassOwed := by
  unfold execZeroSurveyEnd at ht
  split at ht
  · split at ht <;> cases ht
    · exact h
    · exact noPassOwed_of_wc ((afterCalibration_wc _).trans (endCalibration_wc _ _ _ _)) h
  all_goals cases ht; exact h

theorem por_noPassOwed (a : BitVec 2) (h : s.noPassOwed) (ht : execPor a s = .next t) :
    t.noPassOwed := by
  unfold execPor at ht
  split at ht <;> cases ht
  · exact noPassOwed_of_wc (leaveClearStep_wc _) rfl
  · exact h

theorem supplyLoss_noPassOwed (h : s.noPassOwed) (ht : execSupplyLoss s = .next t) : t.noPassOwed := by
  unfold execSupplyLoss at ht
  split at ht <;> cases ht
  · exact h
  · rfl

theorem supplyTrip_noPassOwed (h : s.noPassOwed) (ht : execSupplyTrip s = .next t) : t.noPassOwed := by
  unfold execSupplyTrip at ht
  split at ht <;> cases ht
  · exact h
  · exact noPassOwed_of_wc (cutInit_wc _ _) h
  · exact beginDrain_noPassOwed _ _
  · exact h
  · exact noPassOwed_of_wc (settleCheck_wc _) h

theorem pfailNAssertion_noPassOwed (h : s.noPassOwed) (ht : execPfailNAssertion s = .next t) :
    t.noPassOwed := by
  unfold execPfailNAssertion at ht
  split at ht <;> cases ht
  · exact h
  · exact noPassOwed_of_wc (cutInit_wc _ _) h
  · exact beginDrain_noPassOwed _ _
  · exact h
  · exact noPassOwed_of_wc (settleCheck_wc _) h

theorem resetNAssertion_noPassOwed (h : s.noPassOwed) (ht : execResetNAssertion s = .next t) :
    t.noPassOwed := by
  unfold execResetNAssertion at ht
  split at ht <;> cases ht
  · exact h
  · exact restartInit_noPassOwed _
  · exact beginDrain_noPassOwed _ _
  · exact h
  · exact noPassOwed_of_wc (settleCheck_wc _) h

theorem supplyGood_noPassOwed (h : s.noPassOwed) (ht : execSupplyGood s = .next t) : t.noPassOwed := by
  unfold execSupplyGood at ht
  split at ht <;> cases ht
  all_goals exact h

theorem settleTimerExpiry_noPassOwed (h : s.noPassOwed) (ht : execSettleTimerExpiry s = .next t) :
    t.noPassOwed := by
  unfold execSettleTimerExpiry at ht
  split at ht <;> cases ht
  · exact beginInit_noPassOwed _ _
  · exact h

theorem slotProgramDone_noPassOwed (b : Block) (h : s.noPassOwed)
    (ht : execSlotProgramDone b s = .next t) : t.noPassOwed := by
  unfold execSlotProgramDone at ht
  split at ht
  · split at ht <;> cases ht
    · exact noPassOwed_of_wc ((endDrain_wc _).trans (endProgram_wc _ _ _ _)) h
    · exact endAct_noPassOwed _
  all_goals cases ht; exact h

theorem scanDone_noPassOwed (h : s.noPassOwed) (ht : execScanDone s = .next t) : t.noPassOwed := by
  unfold execScanDone at ht
  split at ht <;> cases ht
  · exact noPassOwed_of_wc ((storeStepDone_wc _).trans (endScan_wc _)) h
  all_goals exact h

theorem sectorEraseDone_noPassOwed (b : Vector Block 16) (h : s.noPassOwed)
    (ht : execSectorEraseDone b s = .next t) : t.noPassOwed := by
  unfold execSectorEraseDone at ht
  split at ht <;> injection ht with ht <;> rw [← ht]
  · exact noPassOwed_of_wc ((storeStepDone_wc _).trans (endErase_wc _ _ _ _)) h
  all_goals exact h

theorem readFrame_noPassOwed (a : Byte) (l : List Bool) (b : Bool) (h : s.noPassOwed)
    (ht : execReadFrame a l b s = .next t) : t.noPassOwed := by
  unfold execReadFrame at ht
  split at ht <;> cases ht
  · exact h
  · exact noPassOwed_of_wc (readFrame_wc _ _ _ _) (endFrame_noPassOwed h)

theorem execRequestFrame_noPassOwed (a : Byte) (l : List Byte) (b : Bool) (h : s.noPassOwed)
    (ht : execRequestFrame a l b s = .next t) : t.noPassOwed := by
  unfold execRequestFrame at ht
  split at ht <;> cases ht
  · exact h
  · exact requestFrame_noPassOwed _ _ _ (endFrame_noPassOwed h)

/-- No command leaves a pass owed. -/
theorem exec_noPassOwed (i : Instr) (h : s.noPassOwed) (ht : exec i s = .next t) : t.noPassOwed := by
  cases i with
  | hostWriteRequest | hostReadRequest => cases ht; exact acceptWaiting_noPassOwed h
  | hostResponseTaken ch => cases ht; exact responseTaken_noPassOwed ch s
  | issueRequest => cases ht; exact noPassOwed_of_wc (offerTags_wc s) h
  | memoryResponse tag st d => exact memoryResponse_noPassOwed tag st d h ht
  | responseLimitExpiry tag => exact responseLimitExpiry_noPassOwed tag h ht
  | holdLimitExpiry p => exact holdLimitExpiry_noPassOwed p h ht
  | ageExpiry n => exact ageExpiry_noPassOwed n h ht
  | rollbackNAssertion => exact rollbackNAssertion_noPassOwed h ht
  | surveyEnd raw => exact surveyEnd_noPassOwed raw h ht
  | zeroSurveyEnd r => exact zeroSurveyEnd_noPassOwed r h ht
  | por a => exact por_noPassOwed a h ht
  | supplyLoss => exact supplyLoss_noPassOwed h ht
  | supplyTrip => exact supplyTrip_noPassOwed h ht
  | pfailNAssertion => exact pfailNAssertion_noPassOwed h ht
  | resetNAssertion => exact resetNAssertion_noPassOwed h ht
  | supplyGood => exact supplyGood_noPassOwed h ht
  | pfailNRise => cases ht; exact noPassOwed_of_wc (settleCheck_wc _) h
  | resetNRise => cases ht; exact noPassOwed_of_wc ((settleCheck_wc _).trans (resetReleased_wc _)) h
  | settleTimerExpiry => exact settleTimerExpiry_noPassOwed h ht
  | slotProgramDone b => exact slotProgramDone_noPassOwed b h ht
  | scanDone => exact scanDone_noPassOwed h ht
  | sectorEraseDone b => exact sectorEraseDone_noPassOwed b h ht
  | readFrame a l b => exact readFrame_noPassOwed a l b h ht
  | linkStuck => cases ht; exact h
  | requestFrame a l b => exact execRequestFrame_noPassOwed a l b h ht
  | _ => cases ht; exact byFrame_noPassOwed _ h

end Acts

/-- Settles O8: the idle step changes the clock alone, and no command leaves a pass owed. -/
theorem stepOwesNoPass : Obligations.StepOwesNoPass := by
  intro s t h ht
  unfold step at ht
  split at ht
  · cases ht; exact h
  · rename_i c rest _
    exact exec_noPassOwed (s := { s with pending := rest }) c h ht

end Sys2Proof.HoldFamily
end

section
/-! STATUS (R170): with the link open the command does nothing but answer, and each part has its payload. -/

namespace Sys2Proof.EngineFamily

open Sys2Proof.Machine

/-- With the link open STATUS is judged at once: no frame in progress is ended before it (R165, R167). -/
theorem exec_status_open {s : State} (h : s.linkOpen) (part : Byte) :
    exec (.status part) s = .next (s.statusCmd part) :=
  congrArg Host.Outcome.next (byFrame_open h (.status part))

/-! ### The parts of STATUS (R167 step 8, R170) -/

theorem statusCmd_zero (s : State) : s.statusCmd 0#8 = s.respond .ok s.statusPart0 := if_pos rfl

theorem statusCmd_one (s : State) : s.statusCmd 1#8 = s.respond .ok s.statusPart1 := by
  unfold State.statusCmd
  rw [if_neg (by decide), if_pos rfl]

theorem statusCmd_other {part : Byte} (h0 : part ≠ 0#8) (h1 : part ≠ 1#8) (s : State) :
    s.statusCmd part = s.respond .badValue [] := by
  unfold State.statusCmd
  rw [if_neg h0, if_neg h1]

/-- Settles O47: with the link open STATUS is its judgement alone; part 0 is made of the device's bytes, the
meter's and the engine's, part 1 of the memory port's, the store's and the reporting's. -/
theorem statusReports : Obligations.StatusReports := by
  intro s h
  refine ⟨?part0, ?part1, ?other⟩
  case part0 =>
    rw [exec_status_open h, statusCmd_zero]
    simp only [State.statusPart0, State.devicePart, Meter.part, Meter.creditWord, faultByte, Engine.part]
  case part1 =>
    rw [exec_status_open h, statusCmd_one]
    simp only [State.statusPart1, MemPort.part, List.map_cons, List.map_nil, Store.part, Mgmt.part]
  case other =>
    intro part h0 h1
    rw [exec_status_open h, statusCmd_other h0 h1]

end Sys2Proof.EngineFamily
end

section
/-! The device state's items and the reserved tags: they are kept by every step whatever is held. -/

namespace Sys2Proof.PortFamily

open Sys2Proof.Machine Sys2Proof.HostFamily

/-! ### The form of the device state, and reserved tags for restore writes alone (R113, R139) -/

/-- The device state stands with its items, and reserved tags are for restore writes alone. -/
abbrev Formed (s : State) : Prop := s.deviceOk ∧ s.port.reservedOk

/-- The state with nothing held, no position taken and nothing reported. It has the power control, the
store and the memory port of `s`, and so its form. -/
def bare (s : State) : State :=
  { s with host := ⟨[], [], [], []⟩, engine := Engine.cleared, mgmt := Mgmt.por s.mgmt.address }

/-- A formed state is bounded once nothing is held: so what `bounded_kept` says of an update of power
control, store or memory port holds of every formed state. -/
theorem bounded_bare {s : State} (h : Formed s) : Bounded (bare s) :=
  ⟨sizesOk_cleared rfl rfl, reporting_por _, h⟩

/-- The form is a matter of power control, the store's operation and the tags. -/
theorem formed_of_bounded {s u : State} (h : Bounded u) (hpower : u.power = s.power := by rfl)
    (hop : u.store.op = s.store.op := by rfl) (htags : u.port.tags = s.port.tags := by rfl) :
    Formed s := by
  obtain ⟨_, _, hdevice, hreserved⟩ := h
  simpa only [Formed, State.deviceOk, State.storeOpFits, MemPort.reservedOk, hpower, hop, htags]
    using And.intro hdevice hreserved

/-- The primitive updates of the data path keep the form. -/
theorem formed_dataKept : DataKept Formed where
  now _ h := h
  host _ _ _ h := h
  epochs _ h := h
  wc _ h := h
  raised _ h := h
  retryOut _ h := h
  meter _ h := h
  entry _ _ _ h := h
  removed i h := formed_of_bounded (bounded_kept.removed (s := bare _) i (bounded_bare h))
  created _ _ _ _ _ h := h
  engine _ _ h := h
  queue _ h := h
  issued t r ht h := formed_of_bounded (bounded_kept.issued (s := bare _) t r ht (bounded_bare h))
  tag t x hx h := formed_of_bounded (bounded_kept.tag (s := bare _) t x hx (bounded_bare h))
  commits _ _ h := h

/-- Every primitive update of the part keeps the form. -/
theorem formed_kept : Kept Formed where
  toDataKept := formed_dataKept
  device h := h.1
  reserved h ht := general_or_restore h.2 ht
  freeCount _ h := h
  pins _ h := h
  bus _ h := h
  tookWrite _ _ _ h := h
  tookRead _ _ _ h := h
  cls _ h := h
  limit _ h := h
  store st ho h := formed_of_bounded (bounded_kept.store (s := bare _) st ho (bounded_bare h))
  program b x hd h := formed_of_bounded (bounded_kept.program (s := bare _) b x hd (bounded_bare h))
  cause _ h := h
  remembered _ h := h
  phase ph hn hd h := formed_of_bounded (bounded_kept.phase (s := bare _) ph hn hd (bounded_bare h))
  initStep x hd ho h := formed_of_bounded (bounded_kept.initStep (s := bare _) x hd ho (bounded_bare h))
  scan hd h := formed_of_bounded (bounded_kept.scan (s := bare _) hd (bounded_bare h))
  toReady hd ho h := formed_of_bounded (bounded_kept.toReady (s := bare _) hd ho (bounded_bare h))
  toDrain c b hd h := formed_of_bounded (bounded_kept.toDrain (s := bare _) c b hd (bounded_bare h))
  toSpent hd ho h := formed_of_bounded (bounded_kept.toSpent (s := bare _) hd ho (bounded_bare h))
  settle x hd h := formed_of_bounded (bounded_kept.settle (s := bare _) x hd (bounded_bare h))
  toInit c x hd ho h :=
    formed_of_bounded (bounded_kept.toInit (s := bare _) c x hd ho (bounded_bare h))
  por a hd h := formed_of_bounded (bounded_kept.por (s := bare _) a hd (bounded_bare h))
  off a h := formed_of_bounded (bounded_kept.off (s := bare _) a (bounded_bare h))
  longOut _ _ h := h
  response _ h := h
  link _ _ _ h := h
  flags _ h := h
  mask _ h := h
  events _ _ _ h := h

/-- Settles O6: every command keeps the form, whatever the queue. -/
theorem stepKeepsDeviceState : Obligations.StepKeepsDeviceState :=
  fun _ _ hdevice hreserved hstep => formed_kept.step (fun _ h => h) ⟨hdevice, hreserved⟩ hstep

end Sys2Proof.PortFamily
end

section
/-! ISSUE_REQUEST (R111 to R114, R118): which request takes which tag next, and what a run of such issues
leaves of the memory port. -/

namespace Sys2Proof.PortFamily

open Sys2Proof.Machine Sys2Proof.HostFamily

/-! ### The lowest-numbered free tag (R111) -/

theorem freeGeneral_eq_some {m : MemPort} {k : Nat} :
    m.freeGeneral? = some k ↔ k < 44 ∧ m.tags[k]? = some .free ∧ ∀ i < k, m.tags[i]? ≠ some .free := by
  unfold MemPort.freeGeneral?
  rw [List.find?_range_eq_some]
  simp only [List.mem_range, generalTags, beq_iff_eq, Bool.not_eq_eq_eq_not, Bool.not_true,
    beq_eq_false_iff_ne]
  tauto

theorem freeReserved_eq_some {m : MemPort} {k : Nat} :
    m.freeReserved? = some k ↔ 44 ≤ k ∧ k < 48 ∧ m.tags[k]? = some .free
      ∧ ∀ i < k, 44 ≤ i → m.tags[i]? ≠ some .free := by
  have htags : (List.range tagCount).drop generalTags = List.range' 44 4 := by decide
  unfold MemPort.freeReserved?
  rw [htags, List.find?_range'_eq_some]
  simp only [List.mem_range'_1, beq_iff_eq, Bool.not_eq_eq_eq_not, Bool.not_true,
    beq_eq_false_iff_ne]
  constructor
  · rintro ⟨hfree, ⟨hge, hlt⟩, hmin⟩
    exact ⟨hge, hlt, hfree, fun i hi hg => hmin i hg hi⟩
  · rintro ⟨hge, hlt, hfree, hmin⟩
    exact ⟨hfree, ⟨hge, hlt⟩, fun i hg hi => hmin i hi hg⟩

/-! ### One issue (R112, R113) -/

/-- The state after `r` is issued on `k`, with `rest` left in the queue. -/
abbrev issuedNext (s : State) (k : Nat) (r : Request) (rest : List Request) : State :=
  { s with port := s.port.taking k r rest s }

/-- No request of the queue can be issued by way of a reserved tag: none is free, or no restore write
waits (R113). -/
abbrev NoRestoreNext (s : State) : Prop :=
  s.port.freeReserved? = none ∨ ∀ q ∈ s.port.queue, q.isRestore = false

/-- Where a reserved tag is free and a restore write waits, the oldest one does. -/
theorem exists_restoreNext {s : State} (h : ¬ NoRestoreNext s) :
    ∃ k r a b, s.port.queue = a ++ r :: b ∧ (∀ q ∈ a, q.isRestore = false) ∧ r.isRestore = true
      ∧ s.port.freeReserved? = some k := by
  obtain ⟨hfree, hwaits⟩ := not_or.1 h
  push Not at hwaits
  obtain ⟨k, hk⟩ := Option.ne_none_iff_exists'.1 hfree
  obtain ⟨q, hq, hrestore⟩ := hwaits
  have hsome : (s.port.queue.find? Request.isRestore).isSome :=
    List.find?_isSome.2 ⟨q, hq, by simpa using hrestore⟩
  obtain ⟨r, hr⟩ := Option.isSome_iff_exists.1 hsome
  obtain ⟨hr, a, b, hab, ha⟩ := List.find?_eq_some_iff_append.1 hr
  exact ⟨k, r, a, b, hab, fun q hm => by simpa using ha q hm, hr, hk⟩

/-- With a reserved tag free the oldest restore write that waits takes it (R113). -/
theorem issueOne_restore {s : State} {k : Nat} {r : Request} {a b : List Request}
    (hq : s.port.queue = a ++ r :: b) (ha : ∀ q ∈ a, q.isRestore = false) (hr : r.isRestore = true)
    (hk : s.port.freeReserved? = some k) :
    s.issueOne = some (issuedNext s k r (a ++ b)) := by
  have hfind : s.port.queue.find? Request.isRestore = some r :=
    List.find?_eq_some_iff_append.2 ⟨hr, a, b, hq, fun q hm => by simp [ha q hm]⟩
  have herase : s.port.queue.eraseP Request.isRestore = a ++ b := by
    rw [hq, List.eraseP_append_right _ fun q hm => by simp [ha q hm], List.eraseP_cons_of_pos hr]
  unfold State.issueOne
  rw [hk, hfind]
  dsimp only
  rw [herase]
  rfl

/-- Otherwise the issue is decided by the free general tag and the head of the queue (R112). -/
theorem issueOne_byHead {s : State} (h : NoRestoreNext s) :
    s.issueOne = match s.port.freeGeneral?, s.port.queue with
      | some k, r :: b => some (issuedNext s k r b)
      | _, _ => none := by
  unfold State.issueOne
  split
  · rename_i k r hk hfind
    rcases h with hnone | hall
    · rw [hnone] at hk; cases hk
    · have hr : r.isRestore = true := List.find?_some hfind
      rw [hall r (List.mem_of_find?_eq_some hfind)] at hr
      cases hr
  · rfl

/-- With no restore write to issue on a reserved tag the head of the queue takes the free general tag. -/
theorem issueOne_general {s : State} {k : Nat} {r : Request} {b : List Request}
    (hq : s.port.queue = r :: b) (h : NoRestoreNext s) (hk : s.port.freeGeneral? = some k) :
    s.issueOne = some (issuedNext s k r b) := by
  rw [issueOne_byHead h, hk, hq]

/-- Nothing is issued exactly when neither kind of tag can be given. -/
theorem issueOne_eq_none {s : State} :
    s.issueOne = none
      ↔ NoRestoreNext s ∧ (s.port.freeGeneral? = none ∨ s.port.queue = []) := by
  by_cases h : NoRestoreNext s
  · rw [issueOne_byHead h]
    cases s.port.freeGeneral? <;> cases s.port.queue <;> simp [h]
  · obtain ⟨k, r, a, b, hq, ha, hr, hk⟩ := exists_restoreNext h
    simp [issueOne_restore hq ha hr hk, h]

/-- The request `r`, which stands between `a` and `b` in the queue, is the oldest of its kind and can take
the tag `k`, a reserved one for a restore write alone. -/
structure NextIssue (s : State) (k : Nat) (r : Request) (a b : List Request) : Prop where
  queue : s.port.queue = a ++ r :: b
  oldest : ∀ q ∈ a, q.isRestore ≠ r.isRestore
  free : s.port.tags[k]? = some .free
  general : r.isRestore = false → k < 44

/-- What one issue can do. -/
theorem nextIssue_of_issueOne {s t : State} (h : s.issueOne = some t) :
    ∃ k r a b, NextIssue s k r a b ∧ t = issuedNext s k r (a ++ b) := by
  by_cases hn : NoRestoreNext s
  · rw [issueOne_byHead hn] at h
    split at h <;> cases h
    rename_i k r b hk hq
    obtain ⟨hlt, hfree, _⟩ := freeGeneral_eq_some.1 hk
    exact ⟨k, r, [], b, ⟨hq, by simp, hfree, fun _ => hlt⟩, rfl⟩
  · obtain ⟨k, r, a, b, hq, ha, hr, hk⟩ := exists_restoreNext hn
    obtain ⟨_, _, hfree, _⟩ := freeReserved_eq_some.1 hk
    rw [issueOne_restore hq ha hr hk] at h
    cases h
    exact ⟨k, r, a, b, ⟨hq, fun q hm => by simp [ha q hm, hr], hfree, by simp [hr]⟩, rfl⟩

/-- An issue takes one request from the queue. -/
theorem NextIssue.length {s : State} {k : Nat} {r : Request} {a b : List Request}
    (h : NextIssue s k r a b) : (a ++ b).length + 1 = s.port.queue.length := by
  rw [h.queue]
  simp [Nat.add_assoc]

/-- An issue leaves the order of the waiting restore writes and of the other requests. -/
theorem NextIssue.filter {s : State} {k : Nat} {r : Request} {a b : List Request}
    (h : NextIssue s k r a b) (x : Bool) :
    [r].filter (·.isRestore == x) ++ (a ++ b).filter (·.isRestore == x)
      = s.port.queue.filter (·.isRestore == x) := by
  rw [h.queue]
  by_cases hx : r.isRestore = x
  · have ha : a.filter (·.isRestore == x) = [] :=
      List.filter_eq_nil_iff.2 fun q hm => by simpa [← hx] using h.oldest q hm
    simp [hx, ha]
  · simp [hx]

/-- The tag that a request takes is in use from now with the limit in force. -/
theorem NextIssue.tag {s : State} {k : Nat} {r : Request} {a b : List Request}
    (h : NextIssue s k r a b) :
    (issuedNext s k r (a ++ b)).port.tags[k]? = some (.inUse r s.now s.port.limit) := by
  obtain ⟨hk, _⟩ := Vector.getElem?_eq_some_iff.1 h.free
  simp [MemPort.taking, hk]

/-- Every other tag stays as it is. -/
theorem issuedNext_tag_other {i k : Nat} (h : i ≠ k) (s : State) (r : Request) (rest : List Request) :
    (issuedNext s k r rest).port.tags[i]? = s.port.tags[i]? := by
  simp [MemPort.taking, Ne.symm h]

/-! ### A run of issues (R112) -/

/-- From `s` to `t` the requests of `taken` are issued, each on its tag, one after the other. -/
inductive Issues : State → List (Nat × Request) → State → Prop
  | done (s : State) : Issues s [] s
  | next {s t : State} {k : Nat} {r : Request} {a b : List Request} {taken : List (Nat × Request)}
      (first : NextIssue s k r a b) (rest : Issues (issuedNext s k r (a ++ b)) taken t) :
      Issues s ((k, r) :: taken) t

/-- With as much fuel as requests wait, issuing goes on until no request of the queue can be issued. -/
theorem issueWhile_issues {n : Nat} {s : State} (h : s.port.queue.length ≤ n) :
    ∃ taken, Issues s taken (s.issueWhile n) ∧ (s.issueWhile n).issueOne = none := by
  induction n generalizing s with
  | zero =>
    have hq : s.port.queue = [] := List.length_eq_zero_iff.1 (Nat.le_zero.1 h)
    exact ⟨[], .done s, (issueOne_eq_none (s := s)).2 ⟨.inr (by simp [hq]), .inr hq⟩⟩
  | succ n ih =>
    unfold State.issueWhile
    split
    · rename_i u hu
      obtain ⟨k, r, a, b, hnext, rfl⟩ := nextIssue_of_issueOne hu
      have hlen := hnext.length
      obtain ⟨taken, hrun, hstop⟩ := ih (s := issuedNext s k r (a ++ b)) (by
        show (a ++ b).length ≤ n
        omega)
      exact ⟨(k, r) :: taken, .next hnext hrun, hstop⟩
    · rename_i hnone
      exact ⟨[], .done s, hnone⟩

/-- The issues that an event offers are a run to a state where no request of the queue can be issued. -/
theorem offerTags_issues (s : State) :
    ∃ taken, Issues s taken s.offerTags ∧ s.offerTags.issueOne = none :=
  issueWhile_issues (Nat.le_refl _)

/-- An issue is the first of those that an event offers. -/
theorem offerTags_of_issueOne {s u : State} (h : s.issueOne = some u) : s.offerTags = u.offerTags := by
  obtain ⟨k, r, a, b, hnext, rfl⟩ := nextIssue_of_issueOne h
  unfold State.offerTags
  rw [← hnext.length]
  show s.issueWhile ((a ++ b).length + 1) = _
  conv_lhs => unfold State.issueWhile
  rw [h]
  rfl

section Runs

variable {s t : State} {taken : List (Nat × Request)}

/-! ### What a run leaves and what it changes (R112 to R114, R118) -/

/-- A run changes the memory port alone. -/
theorem Issues.frame (h : Issues s taken t) : { t with port := s.port } = s := by
  induction h with
  | done => rfl
  | @next s t _ _ _ _ _ _ _ ih => exact congrArg (fun u => { u with port := s.port }) ih

theorem Issues.limit (h : Issues s taken t) : t.port.limit = s.port.limit := by
  induction h with
  | done => rfl
  | next _ _ ih => exact ih

/-- What a run leaves of the queue is the queue without the requests issued. -/
theorem Issues.sublist (h : Issues s taken t) : t.port.queue.Sublist s.port.queue := by
  induction h with
  | done => exact .refl _
  | next first _ ih =>
    rw [first.queue]
    exact ih.trans ((List.Sublist.refl _).append (List.sublist_cons_self _ _))

theorem Issues.length (h : Issues s taken t) :
    taken.length + t.port.queue.length = s.port.queue.length := by
  induction h with
  | done => exact Nat.zero_add _
  | next first _ ih =>
    rw [List.length_cons, Nat.add_right_comm, ih]
    exact first.length

/-- The requests issued and those left are the restore writes in their order, and the others in theirs. -/
theorem Issues.order (h : Issues s taken t) (x : Bool) :
    (taken.map (·.2)).filter (·.isRestore == x) ++ t.port.queue.filter (·.isRestore == x)
      = s.port.queue.filter (·.isRestore == x) := by
  induction h with
  | done => rfl
  | @next s t k r a b taken first _ ih =>
    rw [List.map_cons, ← List.singleton_append, List.filter_append, List.append_assoc, ih]
    exact first.filter x

/-- The requests issued are placed on the request channel in their order, each as it stands at the start of
the run: a run changes nothing that a bus request is made of. -/
theorem Issues.issued (h : Issues s taken t) :
    t.port.issued = s.port.issued ++ taken.map fun x => s.busRequest x.1 x.2 := by
  induction h with
  | done => simp
  | next _ _ ih => exact ih.trans (List.append_assoc _ _ _)

/-- A tag that no request of the run takes stays as it is. -/
theorem Issues.tag_other (h : Issues s taken t) {i : Nat} (hi : i ∉ taken.map (·.1)) :
    t.port.tags[i]? = s.port.tags[i]? := by
  induction h with
  | done => rfl
  | next _ _ ih =>
    rw [List.map_cons, List.mem_cons, not_or] at hi
    obtain ⟨hk, hi⟩ := hi
    rw [ih hi, issuedNext_tag_other hk]

/-- Each request takes a tag that was free before the run; reserved ones go to restore writes alone. -/
theorem Issues.tag_free (h : Issues s taken t) :
    ∀ x ∈ taken, s.port.tags[x.1]? = some .free ∧ (x.2.isRestore = false → x.1 < 44) := by
  induction h with
  | done => simp
  | next first _ ih =>
    refine List.forall_mem_cons.2 ⟨⟨first.free, first.general⟩, fun x hx => ?_⟩
    obtain ⟨hfree, hgeneral⟩ := ih x hx
    refine ⟨?_, hgeneral⟩
    have hne : x.1 ≠ _ := fun he => by
      rw [he, first.tag] at hfree
      cases hfree
    rwa [issuedNext_tag_other hne] at hfree

/-- After a request has taken a tag, no later one of the run takes it. -/
theorem Issues.not_again {k : Nat} {r : Request} {a b : List Request} (first : NextIssue s k r a b)
    (h : Issues (issuedNext s k r (a ++ b)) taken t) : k ∉ taken.map (·.1) := by
  intro hk
  obtain ⟨x, hx, rfl⟩ := List.mem_map.1 hk
  have hfree := (h.tag_free x hx).1
  rw [first.tag] at hfree
  cases hfree

theorem Issues.nodup (h : Issues s taken t) : (taken.map (·.1)).Nodup := by
  induction h with
  | done => simp
  | next first rest ih => exact List.nodup_cons.2 ⟨rest.not_again first, ih⟩

/-- Each tag taken is in use from now with the limit in force. -/
theorem Issues.tag_taken (h : Issues s taken t) :
    ∀ x ∈ taken, t.port.tags[x.1]? = some (.inUse x.2 s.now s.port.limit) := by
  induction h with
  | done => simp
  | next first rest ih =>
    refine List.forall_mem_cons.2 ⟨?_, ih⟩
    rw [rest.tag_other (rest.not_again first), first.tag]

end Runs

/-! ### The command (R112, LOG 18) -/

theorem exec_issueRequest (s : State) : exec .issueRequest s = .next s.offerTags := rfl

/-- The command does what it does after the first issue. -/
theorem exec_issueRequest_first {s u : State} (h : s.issueOne = some u) :
    exec .issueRequest s = exec .issueRequest u := congrArg Host.Outcome.next (offerTags_of_issueOne h)

/-- With a single request waiting the command is its issue. -/
theorem exec_issueRequest_only {s : State} {k : Nat} {r : Request}
    (h : s.issueOne = some (issuedNext s k r [])) :
    exec .issueRequest s = .next (issuedNext s k r []) :=
  (exec_issueRequest_first h).trans (congrArg Host.Outcome.next (offerTags_empty rfl))

/-- Settles O23: the command is a run of issues, each of the oldest restore write on a reserved tag or of the
queue's head on a general one, until none is left. -/
theorem issueRequests : Obligations.IssueRequests := by
  refine ⟨?run, fun s r k a b => ⟨?restore, ?head, ?stop, ?only⟩,
    fun m k => ⟨freeGeneral_eq_some, freeReserved_eq_some⟩, ?single⟩
  case run =>
    intro s
    obtain ⟨taken, hrun, hstop⟩ := offerTags_issues s
    obtain ⟨hreserved, hgeneral⟩ := issueOne_eq_none.1 hstop
    have hfind : s.offerTags.port.queue.find? Request.isRestore = none
        ↔ ∀ q ∈ s.offerTags.port.queue, q.isRestore = false := by simp
    exact ⟨s.offerTags, rfl, hrun.frame, hrun.limit,
      hgeneral.symm.imp_right fun hg => ⟨hg, hreserved.imp_right hfind.2⟩, hrun.sublist,
      ⟨_, hrun.issued, by simpa using hrun.length⟩, taken, hrun.issued, hrun.order, hrun.nodup,
      fun x hx => ⟨(hrun.tag_free x hx).1, hrun.tag_taken x hx, (hrun.tag_free x hx).2⟩,
      fun i hi => hrun.tag_other hi⟩
  case restore =>
    intro hq ha hr hk
    exact exec_issueRequest_first (issueOne_restore hq ha hr hk)
  case head =>
    intro hq hn hk
    exact exec_issueRequest_first (issueOne_general hq hn hk)
  case stop =>
    intro hn hg
    rw [exec_issueRequest]
    exact congrArg Host.Outcome.next (issueWhile_none (issueOne_eq_none.2 ⟨hn, hg⟩) _)
  case only =>
    intro hq hr hk
    exact exec_issueRequest_only (issueOne_restore (a := []) (b := []) hq (by simp) hr hk)
  case single =>
    intro s r k hq hr hk
    exact exec_issueRequest_only (issueOne_general hq (.inr (by simp [hq, hr])) hk)

end Sys2Proof.PortFamily
end

section
/-! The response limit (R118): TIMEOUT_SET, the values after POR and at INIT, and the limit a request takes. -/

namespace Sys2Proof.PortFamily

open Sys2Proof.Machine Sys2Proof.HostFamily

theorem exec_timeoutSet {s : State} (h : s.linkOpen) (l : Byte) :
    exec (.timeoutSet l) s = .next (s.timeoutSetCmd l) := congrArg Host.Outcome.next (byFrame_open h _)

/-- A command not taken in the device state is answered NOT_NOW, whatever its values (R169). -/
theorem judged_notTaken {α : Type} {taken : Bool} (h : taken = false) (v : Option α)
    (f : α → State → State) (s : State) : s.judged taken v f = s.respond .notNow [] := by
  unfold State.judged
  rw [h]
  rfl

/-- DRAIN and SPENT take no setting command (Table 10-3). -/
theorem takesSettings_closed {s : State} (h : s.power.device = .drain ∨ s.power.device = .spent) :
    s.takesSettings = false := by
  unfold State.takesSettings
  rcases h with h | h <;> rw [h] <;> rfl

theorem timeoutParam_zero : timeoutParam 0#8 = none := rfl

theorem timeoutParam_ne {l : Byte} (h : l ≠ 0#8) : timeoutParam l = some l.toNat := if_neg h

/-- A tag that the part has is in use once a request is issued on it, with the limit then in force. -/
theorem issueOn_tag {t : Nat} (ht : t < 48) (r : Request) (s : State) :
    (s.issueOn t r).port.tags[t]? = some (.inUse r s.now s.port.limit) := by
  rw [State.issueOn_port]
  simp [ht]

/-- INIT sets the limit to its default with a cleared configuration alone (Table 6-2). -/
theorem clearBlocks_limit (c : Bool) (s : State) :
    (s.clearBlocks c).port.limit = if c then 20 else s.port.limit := rfl

/-- Settles O54: TIMEOUT_SET is judged by the device state and its one value. -/
theorem timeoutSetAndLimit : Obligations.TimeoutSetAndLimit := by
  refine ⟨fun s l hlink => ⟨fun hdev => ⟨fun hl => ?_, fun hl => ?_⟩, fun hdev => ?_⟩, rfl,
    clearBlocks_limit, fun _ r s ht => issueOn_tag ht r s⟩
  all_goals
    rw [exec_timeoutSet hlink]
    unfold State.timeoutSetCmd
  · rw [timeoutParam_ne hl, judged_some (takesSettings_of hdev)]
    rfl
  · rw [hl, timeoutParam_zero, judged_none (takesSettings_of hdev)]
  · rw [judged_notTaken (takesSettings_closed hdev)]

end Sys2Proof.PortFamily
end

section
/-! The hold-up meter's calibration (R127, R132, R133, R134): CALIBRATE in READY, and the ends of the two
zero surveys. -/

namespace Sys2Proof.MeterFamily

open Sys2Proof.Machine Sys2Proof.HostFamily

/-! ### CALIBRATE (R134) -/

theorem exec_calibrate {s : State} (h : s.linkOpen) : exec .calibrate s = .next s.calibrateCmd :=
  congrArg Host.Outcome.next (byFrame_open h .calibrate)

/-- In READY CALIBRATE is judged by the meter's state alone. -/
theorem calibrateCmd_ready {s : State} (h : s.power.device = .ready) :
    s.calibrateCmd = match s.meter.mode with
      | .running _ => s.requestCalibration.respond .accepted []
      | .calibrating _ | .stopped => s.respond .busy [] := by
  have htaken : s.isReady = true := by simp [State.isReady, h]
  exact judged_some htaken () _ s

/-! ### The ends of zero surveys (R132) -/

theorem exec_zeroSurveyEnd_first {s : State} {c : Calibration} (hm : s.meter.mode = .calibrating c)
    (hf : c.first = none) (x : BitVec 16) : exec (.zeroSurveyEnd x) s
      = .next ((s.advanceTo (c.start + c.period)).firstZeroReading c x.toInt) := by
  show execZeroSurveyEnd x s = _
  simp only [execZeroSurveyEnd, hm, hf]

theorem exec_zeroSurveyEnd_second {s : State} {c : Calibration} {a : Int}
    (hm : s.meter.mode = .calibrating c) (hf : c.first = some a) (x : BitVec 16) :
    exec (.zeroSurveyEnd x) s
      = .next ((s.advanceTo (c.start + c.period)).endCalibration c a x.toInt).afterCalibration := by
  show execZeroSurveyEnd x s = _
  simp only [execZeroSurveyEnd, hm, hf]

@[simp] theorem endCalibration_power (c : Calibration) (a b : Int) (s : State) :
    (s.endCalibration c a b).power = s.power := by
  unfold State.endCalibration
  split <;> rfl

/-- The offset passes its fault test within 512 on either side (R135). -/
theorem not_offsetFails (x : Int) : (!offsetFails x) = decide (-512 ≤ x ∧ x ≤ 512) := by
  unfold offsetFails
  rw [← decide_not]
  exact decide_eq_decide.mpr (by omega)

/-- A calibration of INIT's own sets the offset and begins a new survey, and raises nothing (R132). -/
theorem endCalibration_own {c : Calibration} (h : c.requested = false) (a b : Int) (s : State) :
    s.endCalibration c a b = { s with meter := { s.meter with
      offset := (a + b).tdiv 2
      mode := .running ⟨s.now, s.meter.period, s.meter.reserve, s.meter.cost⟩ } } := by
  unfold State.endCalibration
  rw [h]
  rfl

/-- One asked for by CALIBRATE raises COMMAND_DONE besides, and is no longer outstanding (R134, R172). -/
theorem endCalibration_requested {c : Calibration} (h : c.requested = true) (a b : Int) (s : State) :
    s.endCalibration c a b = { s with
      meter := { s.meter with
        offset := (a + b).tdiv 2
        mode := .running ⟨s.now, s.meter.period, s.meter.reserve, s.meter.cost⟩ }
      mgmt := { s.mgmt.record ⟨.commandDone, none, none, none, none, .calibrateDone
          (some (decide (-512 ≤ (a + b).tdiv 2 ∧ (a + b).tdiv 2 ≤ 512))) ((a + b).tdiv 2)⟩ with
        calibrateOut := false } } := by
  unfold State.endCalibration
  rw [h, ← not_offsetFails]
  rfl

/-- The end of a calibration leads INIT on in its calibration step alone (R133). -/
theorem afterCalibration_other {s : State}
    (h : ¬ (s.power.device = .init ∧ s.power.initStep = some .calibrate)) : s.afterCalibration = s :=
  if_neg h

theorem afterCalibration_init {s : State} (hd : s.power.device = .init)
    (hi : s.power.initStep = some .calibrate) : s.afterCalibration = s.toInitStep .firstSurvey :=
  if_pos ⟨hd, hi⟩

/-- Settles O34: CALIBRATE is judged by the meter's state, and a zero survey's end by the first reading. -/
theorem calibrationRuns : Obligations.CalibrationRuns := by
  refine ⟨fun s hlink hready => ⟨fun sv hm => ?running, fun c hm => ?busy⟩, fun s x c hm =>
    ⟨fun hf => exec_zeroSurveyEnd_first hm hf x, fun a hf hother => ⟨fun hreq => ?own, fun hreq => ?asked⟩,
      fun a hf hreq hd hi => ?init⟩⟩
  case running =>
    rw [exec_calibrate hlink, calibrateCmd_ready hready, hm]
    rfl
  case busy => rw [exec_calibrate hlink, calibrateCmd_ready hready, hm]
  case own =>
    rw [exec_zeroSurveyEnd_second hm hf, afterCalibration_other (by simpa using hother),
      endCalibration_own hreq]
    rfl
  case asked =>
    rw [exec_zeroSurveyEnd_second hm hf, afterCalibration_other (by simpa using hother),
      endCalibration_requested hreq]
    rfl
  case init =>
    rw [exec_zeroSurveyEnd_second hm hf, afterCalibration_init (by simpa using hd) (by simpa using hi),
      endCalibration_own hreq]
    rfl

end Sys2Proof.MeterFamily
end

section
/-! Trip, PFAIL_N and RESET_N in INIT (R133, R142, R143): INIT is cut short to SPENT, or begins again at
step 1 and waits there for RESET_N to rise. -/

namespace Sys2Proof.MeterFamily

open Sys2Proof.Machine

/-! ### What the parts of these acts do -/

/-- A cut of a store that neither erases nor programs leaves it idle. -/
theorem cutStore_untorn {s : State} (h : s.store.op = .idle ∨ s.store.op = .scanning) :
    s.cutStore = { s with store := { s.store with op := .idle } } := by
  unfold State.cutStore
  split
  next hop => rw [← hop]
  next => rfl
  next hop => simp [hop] at h
  next hop => simp [hop] at h

/-- A cut changes the slots and the free values' counter at most, and leaves the store idle. -/
theorem cutStore_frame (s : State) : ∃ k slots,
    s.cutStore = { s with freeCount := k, store := { s.store with slots := slots, op := .idle } } := by
  unfold State.cutStore
  split
  next h => exact ⟨s.freeCount, s.store.slots, by rw [← h]⟩
  all_goals exact ⟨_, _, rfl⟩

/-- A meter still STOPPED begins its first survey in SPENT, and any other goes on (R133). -/
theorem wakeMeter_mode (s : State) : s.wakeMeter = { s with meter := { s.meter with
    mode := match s.meter.mode with
      | .stopped => .running ⟨s.now, s.meter.period, s.meter.reserve, s.meter.cost⟩
      | m => m } } := by
  unfold State.wakeMeter
  cases hm : s.meter.mode
  case stopped => rfl
  all_goals
    dsimp only
    rw [← hm]

/-- Outside SPENT there is no settle timer to run. -/
theorem settleCheck_notSpent {s : State} (h : s.power.device ≠ .spent) : s.settleCheck = s := if_neg h

/-- In SPENT the settle timer does not run where one of the three conditions fails (R152). -/
theorem settleCheck_unsettled {s : State} (hd : s.power.device = .spent) (hp : s.pins.allHold = false) :
    s.settleCheck = { s with power := { s.power with settleSince := none } } := by
  unfold State.settleCheck State.startSettle
  simp [hd, hp]

/-- SPENT entered with one of the three conditions failing: the settle timer does not run (R152). -/
theorem enterSpent_unsettled {s : State} (hp : s.pins.allHold = false) :
    s.enterSpent = { s with
      power := { s.power with
        device := .spent, initStep := none, phase := .none, settleSince := none }
      meter := { s.meter with mode := match s.meter.mode with
        | .stopped => .running ⟨s.now, s.meter.period, s.meter.reserve, s.meter.cost⟩
        | m => m } } := by
  unfold State.enterSpent
  rw [wakeMeter_mode]
  exact settleCheck_unsettled rfl hp

/-- INIT cut short with one of the three conditions failing (R143, R152). -/
theorem cutInit_unsettled {s : State} (h : s.store.op = .idle ∨ s.store.op = .scanning)
    (hp : s.pins.allHold = false) (cause : DrainCause) :
    s.cutInit cause = { s with
      power := { s.power with
        device := .spent, initStep := none, cause := cause, phase := .none, settleSince := none }
      store := { s.store with op := .idle }
      meter := { s.meter with mode := match s.meter.mode with
        | .stopped => .running ⟨s.now, s.meter.period, s.meter.reserve, s.meter.cost⟩
        | m => m } } := by
  unfold State.cutInit
  rw [cutStore_untorn h]
  exact enterSpent_unsettled hp

/-- The meter's work in INIT is dropped by a new survey at most (R143, LOG 14). -/
theorem dropMeterWork_frame (s : State) : ∃ mode,
    s.dropMeterWork = { s with meter := { s.meter with mode := mode } } := by
  unfold State.dropMeterWork
  split
  · exact ⟨_, rfl⟩
  · split
    · exact ⟨_, rfl⟩
    · exact ⟨s.meter.mode, rfl⟩
  · exact ⟨s.meter.mode, rfl⟩

/-- With RESET_N low INIT waits in step 1. -/
theorem leaveClearStep_low {s : State} (h : s.pins.resetHigh = false) :
    s.leaveClearStep = s.toInitStep .clear := by
  unfold State.leaveClearStep
  simp [h]

/-- With RESET_N high step 1 ends, and a usable store begins its scan (R142, R143, R158). -/
theorem leaveClearStep_scans {s : State} (h : s.pins.resetHigh = true) (hu : s.store.usable = true) :
    s.leaveClearStep = { s with
      power := { s.power with initStep := some .store, resetRemembered := false }
      store := { s.store with op := .scanning } } := by
  unfold State.leaveClearStep State.beginStoreStep
  simp [h, hu, State.toInitStep]

/-- With its meter work dropped and RESET_N low, INIT waits in step 1. -/
theorem dropMeterWork_waits {s : State} (h : s.pins.resetHigh = false) : ∃ mode,
    s.dropMeterWork.leaveClearStep = { s with
      power := { s.power with initStep := some .clear }
      meter := { s.meter with mode := mode } } := by
  obtain ⟨mode, hdrop⟩ := dropMeterWork_frame s
  rw [hdrop]
  exact ⟨mode, leaveClearStep_low h⟩

/-- INIT begun again with RESET_N low: the blocks are cleared with the configuration, and INIT stands in
step 1 with reset remembered (R143). -/
theorem restartInit_low {s : State} (h : s.pins.resetHigh = false) : ∃ k slots mode,
    let cleared := ({ s with
      freeCount := k, store := { s.store with slots := slots, op := .idle } } : State).clearBlocks true
    s.restartInit = { cleared with
      power := { cleared.power with initStep := some .clear, resetRemembered := true }
      meter := { cleared.meter with mode := mode } } := by
  obtain ⟨k, slots, hcut⟩ := cutStore_frame s
  unfold State.restartInit
  rw [hcut]
  refine ⟨k, slots, dropMeterWork_waits ?_⟩
  exact h

/-- INIT's clearing sets each stream record by itself (Table 2-5). -/
theorem clearBlocks_stream (c : Bool) (s : State) (n : StreamId) :
    (s.clearBlocks c).stream n = (s.stream n).atInit c := by
  simp [State.stream, State.clearBlocks, mapVector]

/-- Every tag of the memory port is free after POR (Table 6-2). -/
theorem por_tags_free (i : Fin 48) : MemPort.por.tags[i] = .free := by simp [MemPort.por]

/-! ### The commands -/

theorem exec_supplyTrip_init {s : State} (h : s.power.device = .init) :
    exec .supplyTrip s = .next ((s.setSupply false).cutInit .power) := by
  show execSupplyTrip s = _
  simp only [execSupplyTrip, h]

theorem exec_pfailNAssertion_init {s : State} (h : s.power.device = .init) :
    exec .pfailNAssertion s = .next ((s.setPfail false).cutInit .pfail) := by
  show execPfailNAssertion s = _
  simp only [execPfailNAssertion, h]

theorem exec_resetNAssertion_init {s : State} (h : s.power.device = .init) :
    exec .resetNAssertion s = .next (s.setReset false).restartInit := by
  show execResetNAssertion s = _
  simp only [execResetNAssertion, h]

/-- A rise of RESET_N ends step 1 of INIT (R143). -/
theorem exec_resetNRise_clear {s : State} (h : s.power.device = .init)
    (hi : s.power.initStep = some .clear) :
    exec .resetNRise s = .next (s.setReset true).leaveClearStep.settleCheck :=
  congrArg (fun t : State => Host.Outcome.next t.settleCheck) (if_pos ⟨h, hi⟩)

/-- Settles O39: a trip and PFAIL_N cut INIT short with a condition failing; RESET_N begins it again with
the line low, and its rise ends step 1. -/
theorem eventsInInit : Obligations.EventsInInit := by
  refine ⟨fun s hd hop => ⟨?trip, ?pfail⟩, fun s hd => ?restart, fun s hd hi hu => ?rise⟩
  case trip =>
    rw [exec_supplyTrip_init hd, cutInit_unsettled (s := s.setSupply false) hop rfl]
    rfl
  case pfail =>
    rw [exec_pfailNAssertion_init hd,
      cutInit_unsettled (s := s.setPfail false) hop (by simp [Pins.allHold])]
    rfl
  case restart =>
    obtain ⟨k, slots, mode, hrestart⟩ := restartInit_low (s := s.setReset false) rfl
    exact ⟨_, (exec_resetNAssertion_init hd).trans (congrArg _ hrestart), hd, rfl, rfl, rfl, rfl, rfl, rfl,
      rfl, rfl, por_tags_free, rfl, rfl, fun n => clearBlocks_stream true s n, rfl, rfl, rfl, rfl, rfl, rfl,
      rfl, rfl, rfl, rfl, rfl, rfl, rfl⟩
  case rise =>
    rw [exec_resetNRise_clear hd hi, leaveClearStep_scans (s := s.setReset true) rfl hu,
      settleCheck_notSpent (by simp [hd])]
    rfl

end Sys2Proof.MeterFamily
end

section
/-! What the outcome store holds (R154 to R161): the sectors' places in slots and slot table, torn sectors, and
the newest record with what preparation takes from it. -/

namespace Sys2Proof.MeterFamily

open Sys2Proof.Machine

/-! ### Slots and sectors in their order (R154) -/

theorem allSlots_eq_finRange : allSlots = List.finRange 64 := by decide

theorem allSectors_eq_finRange : allSectors = List.finRange 4 := by decide

/-- A search from 0 up finds the least member. -/
theorem find?_finRange_least {n : Nat} {p : Fin n → Bool} {x : Fin n} (hx : p x = true)
    (hlt : ∀ y, y < x → p y = false) : (List.finRange n).find? p = some x := by
  rw [List.find?_eq_some_iff_getElem]
  exact ⟨hx, x, by simp, by simp, fun j hj => by simpa using hlt ⟨j, by omega⟩ hj⟩

/-! ### The places of a sector (R154, R157) -/

/-- What a run of `n` replacements from a base on leaves in each place. -/
theorem getElem?_foldl_set {α : Type} (base : Nat) (f : Nat → α) (l : List α) (n i : Nat) :
    ((List.range n).foldl (fun t j => t.set (base + j) (f j)) l)[i]?
      = if base ≤ i ∧ i < base + n then l[i]?.map fun _ => f (i - base) else l[i]? := by
  induction n with
  | zero => simp
  | succ n ih =>
    rw [List.range_succ, List.foldl_append, List.foldl_cons, List.foldl_nil, List.getElem?_set]
    by_cases hi : base + n = i
    · have hbefore : ¬ (base ≤ i ∧ i < base + n) := by omega
      have hnow : base ≤ i ∧ i < base + (n + 1) := by omega
      have hn : i - base = n := by omega
      have hlen : ((List.range n).foldl (fun t j => t.set (base + j) (f j)) l).length = l.length :=
        List.foldlRecOn (motive := fun t : List α => t.length = l.length) _ _ rfl
          fun t ht j _ => by simp [ht]
      rw [if_pos hi, hi, hlen, if_pos hnow, hn]
      by_cases hin : i < l.length <;> simp [hin]
    · have hsame : (base ≤ i ∧ i < base + (n + 1)) ↔ (base ≤ i ∧ i < base + n) := by omega
      rw [if_neg hi, ih]
      simp only [hsame]

/-- A place lies in a sector when its number does, divided by 16 (R154). -/
theorem inSector_iff (x : Fin 4) (i : Nat) :
    (16 * x.val ≤ i ∧ i < 16 * x.val + 16) ↔ i / 16 = x.val := by omega

theorem setTable_eq_mapIdx (x : Fin 4) (f : Nat → SlotState) (t : List SlotState) :
    setTable x f t = t.mapIdx fun i y => if i / 16 = x.val then f (i - 16 * x.val) else y := by
  refine List.ext_getElem? fun i => ?_
  refine (getElem?_foldl_set (16 * x.val) f t 16 i).trans ?_
  rw [List.getElem?_mapIdx]
  simp only [inSector_iff]
  split <;> simp

/-- A sector's slots are replaced as the places of a list are. -/
theorem setSector_toList (x : Fin 4) (f : Nat → Block) (v : Vector Block 64) :
    (setSector x f v).toList
      = sectorPlaces.foldl (fun t j => t.set (slotNumber x j) (f j)) v.toList :=
  (List.foldl_hom Vector.toList fun _ _ => by simp).symm

theorem setSector_getElem (x : Fin 4) (f : Nat → Block) (v : Vector Block 64) (i : Fin 64) :
    (setSector x f v)[i] = if i.val / 16 = x.val then f (i.val - 16 * x.val) else v[i] := by
  have hget : (setSector x f v).toList[i.val]? = _ :=
    (congrArg (·[i.val]?) (setSector_toList x f v)).trans
      (getElem?_foldl_set (16 * x.val) f v.toList 16 i.val)
  simp only [inSector_iff] at hget
  split at hget <;> rename_i hin <;> simpa [hin] using hget

theorem setSector_eq_ofFn (x : Fin 4) (f : Nat → Block) (v : Vector Block 64) :
    setSector x f v = Vector.ofFn fun i : Fin 64 =>
      if i.val / 16 = x.val then f (i.val - 16 * x.val) else v[i] :=
  Vector.ext fun i hi => by
    rw [Vector.getElem_ofFn]
    exact setSector_getElem x f v ⟨i, hi⟩

theorem setSector_place (x : Fin 4) (f : Nat → Block) (v : Vector Block 64) (j : Fin 16) :
    (setSector x f v)[16 * x.val + j.val]? = some (f j.val) := by
  have hlt : 16 * x.val + j.val < 64 := by omega
  have hsector : (16 * x.val + j.val) / 16 = x.val := by omega
  have hget := setSector_getElem x f v ⟨16 * x.val + j.val, hlt⟩
  rw [if_pos hsector, Nat.add_sub_cancel_left] at hget
  rw [Vector.getElem?_eq_getElem hlt]
  exact congrArg some hget

theorem setSector_elsewhere {x : Fin 4} {i : Fin 64} (h : i.val / 16 ≠ x.val) (f : Nat → Block)
    (v : Vector Block 64) : (setSector x f v)[i] = v[i] := by rw [setSector_getElem, if_neg h]

/-- The table's states of a sector are those of its slots. -/
theorem mem_sectorStates {st : Store} {x : Fin 4} {y : SlotState} :
    y ∈ st.sectorStates x ↔ ∃ i : Fin 64, i.val / 16 = x.val ∧ st.isState i y := by
  unfold Store.sectorStates Store.isState
  rw [List.mem_iff_getElem?]
  simp only [List.getElem?_take, List.getElem?_drop]
  constructor
  · rintro ⟨k, hk⟩
    split at hk
    next hlt => exact ⟨⟨16 * x.val + k, by omega⟩, by dsimp only; omega, hk⟩
    next => cases hk
  · rintro ⟨i, hi, hy⟩
    have hplace : 16 * x.val + (i.val - 16 * x.val) = i.val := by omega
    exact ⟨i.val - 16 * x.val, by rw [if_pos (by omega), hplace]; exact hy⟩

/-- In a full table every slot has a state. -/
theorem exists_isState {st : Store} (hl : st.table.length = 64) (i : Fin 64) : ∃ y, st.isState i y :=
  ⟨st.table[i.val], List.getElem?_eq_getElem _⟩

theorem torn_iff {st : Store} (hl : st.table.length = 64) (x : Fin 4) :
    st.torn x = true ↔ st.tornAt x := by
  have hvalid : (!(st.sectorStates x).contains .valid) = true
      ↔ ∀ i : Fin 64, i.val / 16 = x.val → ¬ st.isState i .valid := by
    simp [mem_sectorStates]
  have hrest : (st.sectorStates x).any (· != .erased) = true
      ↔ ∃ i : Fin 64, i.val / 16 = x.val ∧ ¬ st.isState i .erased := by
    rw [List.any_eq_true]
    constructor
    · rintro ⟨y, hy, hne⟩
      obtain ⟨i, hi, his⟩ := mem_sectorStates.mp hy
      exact ⟨i, hi, fun he => by simp [Option.some.inj (his.symm.trans he)] at hne⟩
    · rintro ⟨i, hi, hne⟩
      obtain ⟨y, hy⟩ := exists_isState hl i
      exact ⟨y, mem_sectorStates.mpr ⟨i, hi, hy⟩, by simpa using fun he : y = .erased => hne (he ▸ hy)⟩
  unfold Store.torn Store.tornAt
  rw [Bool.and_eq_true, hvalid, hrest]

/-! ### The newest record (R155, R161) -/

theorem mem_records {st : Store} {r : SlotRecord} :
    r ∈ st.records ↔ ∃ i : Fin 64, st.isState i .valid ∧ st.recordAt i = r := by
  unfold Store.records
  rw [allSlots_eq_finRange, List.mem_filterMap]
  exact exists_congr fun i => by
    simp only [List.mem_finRange, true_and, Option.ite_none_right_eq_some, Option.some.injEq]
    rfl

/-- Of two records one at most is the newer (R155). -/
theorem newerThan_asymm {a b : SlotRecord} (h : a.newerThan b = true) : b.newerThan a = false := by
  unfold SlotRecord.newerThan at h ⊢
  by_cases hs : a.seq = b.seq
  · simp_all
  · have hs' : b.seq ≠ a.seq := fun e => hs e.symm
    simp only [if_neg hs, if_neg hs', decide_eq_true_eq, decide_eq_false_iff_not] at h ⊢
    bv_omega

theorem newerThan_irrefl (a : SlotRecord) : a.newerThan a = false := by simp [SlotRecord.newerThan]

/-- The newest record is the one with none newer. -/
theorem newest_of_newestAt {st : Store} {i : Fin 64} (h : st.newestAt i) :
    st.newest = some (st.recordAt i) := by
  obtain ⟨hvalid, hnewer⟩ := h
  have hmem : st.recordAt i ∈ st.records := mem_records.mpr ⟨i, hvalid, rfl⟩
  have hnone : st.records.filter (·.newerThan (st.recordAt i)) = [] := by
    rw [List.filter_eq_nil_iff]
    intro r hr
    obtain ⟨j, hj, rfl⟩ := mem_records.mp hr
    by_cases hji : j = i
    · simp [hji, newerThan_irrefl]
    · simp [newerThan_asymm (hnewer j hji hj)]
  unfold Store.newest Store.kthNewest
  cases hfind : st.records.find? fun r => (st.records.filter (·.newerThan r)).length == 0
  case none => exact absurd (List.find?_eq_none.mp hfind _ hmem) (by simp [hnone])
  case some r =>
    have hempty : st.records.filter (·.newerThan r) = [] := by simpa using List.find?_some hfind
    obtain ⟨j, hj, rfl⟩ := mem_records.mp (List.mem_of_find?_eq_some hfind)
    by_cases hji : j = i
    · rw [hji]
    · exact absurd (hnewer j hji hj) (List.filter_eq_nil_iff.mp hempty _ hmem)

theorem newest_none {st : Store} (h : ∀ i, ¬ st.isState i .valid) : st.newest = none := by
  refine List.find?_eq_none.mpr fun r hr => ?_
  obtain ⟨i, hi, -⟩ := mem_records.mp hr
  exact absurd hi (h i)

theorem causeOf_of_causeIs {st : Store} {seq : BitVec 32} {c : DrainCause} (h : st.causeIs seq c) :
    st.causeOf seq = c := by
  obtain ⟨hbegin, hno⟩ := h
  unfold Store.causeOf
  split
  next r hfind =>
    obtain ⟨j, hj, rfl⟩ := mem_records.mp (List.mem_of_find?_eq_some hfind)
    have hr := List.find?_some hfind
    simp only [Bool.and_eq_true, Bool.not_eq_true', beq_iff_eq] at hr
    obtain ⟨hend, hseq⟩ := hr
    exact hbegin j hj hend hseq
  next hfind =>
    refine (hno fun j hj hend hseq => ?_).symm
    exact List.find?_eq_none.mp hfind _ (mem_records.mpr ⟨j, hj, rfl⟩) (by simp [hend, hseq])

/-- The sector that step 3 of preparation erases: the one after the newest record's, or sector 0
(R159). -/
def sectorToFree (st : Store) : Fin 4 :=
  match st.newest with
  | some r => sectorOf r.slot + 1
  | none => 0

/-- What preparation takes from the newest record (R159, R161). -/
theorem startsAt_reads {st : Store} {start : Fin 64} {seq : BitVec 32} {report : LastDrain}
    {sector : Fin 4} (h : st.startsAt start seq report sector) :
    st.startPoint = start ∧ st.nextSeq = seq ∧ st.reportOf = report ∧ sectorToFree st = sector := by
  unfold Store.startPoint Store.nextSeq Store.reportOf sectorToFree
  rcases h with ⟨hno, rfl, rfl, rfl, rfl⟩ | ⟨i, c, hnewest, hcause, rfl, rfl, rfl, rfl⟩
  · rw [newest_none hno]
    exact ⟨rfl, rfl, rfl, rfl⟩
  · rw [newest_of_newestAt hnewest, ← causeOf_of_causeIs hcause]
    exact ⟨rfl, rfl, rfl, rfl⟩

end Sys2Proof.MeterFamily
end

section
/-! Where the scan, a repair and an erase lead in step 2 of INIT (R157 to R161): a torn sector is erased, the
ring is prepared, or the store's work is over and the meter's calibration begins. -/

namespace Sys2Proof.MeterFamily

open Sys2Proof.Machine

/-! ### Where preparation leads (R158, R159) -/

theorem beginErase_erasingFrom (x : Fin 4) (why : EraseWhy) (s : State) :
    s.beginErase x why = { s with store := s.store.erasingFrom x why } := by
  unfold State.beginErase Store.erasingFrom
  rw [setTable_eq_mapIdx]

/-- The lowest-numbered torn sector is erased, whatever the store's operation was. -/
theorem repairOrPrepare_torn {s : State} {x : Fin 4} (hl : s.store.table.length = 64)
    (hx : s.store.tornAt x) (hlow : ∀ y, y < x → ¬ s.store.tornAt y) :
    s.repairOrPrepare = { s with store := s.store.erasingFrom x .repair } := by
  have hfind : allSectors.find? s.store.torn = some x := by
    rw [allSectors_eq_finRange]
    exact find?_finRange_least ((torn_iff hl x).mpr hx) fun y hy =>
      Bool.eq_false_iff.mpr fun ht => hlow y hy ((torn_iff hl y).mp ht)
  unfold State.repairOrPrepare
  rw [hfind]
  exact beginErase_erasingFrom x .repair s

/-- With no torn sector the ring is prepared. -/
theorem repairOrPrepare_whole {s : State} (hl : s.store.table.length = 64)
    (h : ∀ x, ¬ s.store.tornAt x) (ho : s.store.op = .idle) : s.repairOrPrepare = s.prepareRing := by
  have hfind : allSectors.find? s.store.torn = none :=
    List.find?_eq_none.mpr fun x _ ht => h x ((torn_iff hl x).mp ht)
  unfold State.repairOrPrepare
  rw [hfind, ← ho]

/-- Step 2 of preparation: the next slot is the first ERASED one from the start point on. -/
theorem prepareRing_found {s : State} {d : Fin 64}
    (hd : s.store.isState (s.store.startPoint + d) .erased)
    (hlow : ∀ c, c < d → ¬ s.store.isState (s.store.startPoint + c) .erased) :
    s.prepareRing
      = ({ s with store := { s.store with next := s.store.startPoint + d } } : State).prepareRoom := by
  have hfind : s.store.firstErased s.store.startPoint = some (s.store.startPoint + d) := by
    unfold Store.firstErased
    rw [allSlots_eq_finRange, List.find?_map, find?_finRange_least (x := d)]
    · rfl
    · simpa [Store.slotState] using hd
    · intro c hc
      simpa [Store.slotState] using hlow c hc
  unfold State.prepareRing
  rw [hfind]

/-- Step 3 of preparation: with no ERASED slot a sector is erased. -/
theorem prepareRing_full {s : State} (h : ∀ i, ¬ s.store.isState i .erased) :
    s.prepareRing = s.beginErase (sectorToFree s.store) .noErasedSlot := by
  have hfind : s.store.firstErased s.store.startPoint = none :=
    List.find?_eq_none.mpr fun i _ hi => h i (by simpa [Store.slotState] using hi)
  unfold State.prepareRing
  rw [hfind]
  rfl

/-- Step 4 of preparation with room for two records: the store's work at INIT is over. -/
theorem prepareRoom_finishes {s : State} (h : s.store.isState (s.store.next + 1) .erased) :
    s.prepareRoom = s.finishPreparation := if_pos h

/-- Step 4 of preparation without it: the sector that follows is erased. -/
theorem prepareRoom_erases {s : State} (h : ¬ s.store.isState (s.store.next + 1) .erased) :
    s.prepareRoom = s.beginErase (sectorOf s.store.next + 1) .roomForTwo := if_neg h

/-- Steps 5 and 6 of preparation in an idle store. -/
theorem finishPreparation_idle {s : State} (h : s.store.op = .idle) :
    s.finishPreparation = { s with store := { s.store with
      drainSeq := s.store.nextSeq, report := s.store.reportOf } } := by
  unfold State.finishPreparation
  rw [← h]

@[simp] theorem beginMeterStep_store (s : State) : s.beginMeterStep.store = s.store := rfl

/-- Step 2 of INIT ends with the store's work (R133, R142). -/
theorem storeStepDone_idle {s : State} (h : s.store.op = .idle) : s.storeStepDone = s.beginMeterStep := by
  unfold State.storeStepDone
  rw [h]

/-- With preparation over INIT goes on to the meter's calibration, and the store keeps its slots, its table
and its next slot (R133, R159). -/
theorem finishPreparation_leads (s : State) (st : Store) {o : Host.Outcome State Fault Refusal}
    (h : o = .next ({ s with store := st } : State).finishPreparation.beginMeterStep) :
    ∃ t, o = .next t ∧ t.store.slots = st.slots ∧ t.store.table = st.table
      ∧ t.store.usable = st.usable ∧ t.store.op = .idle ∧ t.store.next = st.next
      ∧ t.store.drainSeq = t.store.nextSeq ∧ t.power = { s.power with initStep := some .calibrate }
      ∧ t.mgmt = s.mgmt :=
  ⟨_, h, rfl, rfl, rfl, rfl, rfl, rfl, rfl, rfl⟩

/-- After the scan, or a repair verified good, INIT goes on by the slot table alone. -/
theorem preparesTo_repairOrPrepare {u : State} (hl : u.store.table.length = 64)
    (ho : u.store.op = .idle) : u.preparesTo (.next u.repairOrPrepare.storeStepDone) := by
  refine ⟨fun x hx hlow => ?torn, fun hwhole start seq report sector hstart => ?whole⟩
  case torn =>
    rw [repairOrPrepare_torn hl hx hlow]
    rfl
  case whole =>
    obtain ⟨rfl, rfl, rfl, rfl⟩ := startsAt_reads hstart
    rw [repairOrPrepare_whole hl hwhole ho]
    refine ⟨fun d hd hlow => ⟨fun hroom => ?two, fun hroom => ?one⟩, fun hfull => ?full⟩
    case two =>
      rw [prepareRing_found hd hlow, prepareRoom_finishes hroom, finishPreparation_idle (by exact ho),
        storeStepDone_idle (by exact ho)]
      rfl
    case one =>
      rw [prepareRing_found hd hlow, prepareRoom_erases hroom, beginErase_erasingFrom]
      rfl
    case full =>
      rw [prepareRing_full hfull, beginErase_erasingFrom]
      rfl

/-! ### The end of the scan (R158) -/

theorem exec_scanDone_scanning {s : State} (h : s.store.op = .scanning) :
    exec .scanDone s = .next s.endScan.storeStepDone := by
  show execScanDone s = _
  simp only [execScanDone, h]

theorem exec_scanDone_other {s : State} (h : s.store.op ≠ .scanning) : exec .scanDone s = .next s := by
  show execScanDone s = _
  unfold execScanDone
  split
  next hscan => exact absurd hscan h
  all_goals rfl

/-- The scan judges every slot, and INIT goes on by what it found. -/
theorem scanDone_preparesTo {s : State} (h : s.store.op = .scanning) :
    ({ s with store := { s.store with
      table := s.store.slots.toList.map judgeSlot, op := .idle } } : State).preparesTo
        (exec .scanDone s) := by
  rw [exec_scanDone_scanning h]
  exact preparesTo_repairOrPrepare (by simp) rfl

theorem judgeSlot_erasedBlock : judgeSlot erasedBlock = .erased := by decide

/-- With every slot ERASED the ring is prepared from slot 0 and number 0, with no report (R159, R161). -/
theorem preparesTo_allErased {u : State} {o : Host.Outcome State Fault Refusal} (h : u.preparesTo o)
    (ht : u.store.table = List.replicate 64 .erased) :
    o = .next { u with
      store := { u.store with next := 0, drainSeq := 0#32, report := ⟨.none, none, .none⟩ }
      power := { u.power with initStep := some .calibrate }
      meter := { u.meter with
        mode := .calibrating ⟨u.now, u.meter.period, none, false⟩, stale := true } } := by
  have herased : ∀ i, u.store.isState i .erased := fun i => by
    unfold Store.isState
    rw [ht, List.getElem?_replicate, if_pos i.isLt]
  have hvalid : ∀ i, ¬ u.store.isState i .valid := fun i hi => by
    have hboth := (herased i).symm.trans hi
    simp at hboth
  obtain ⟨-, hwhole⟩ := h
  obtain ⟨hfound, -⟩ := hwhole (fun x ⟨_, i, _, hi⟩ => hi (herased i)) 0 0#32 ⟨.none, none, .none⟩ 0
    (.inl ⟨hvalid, rfl, rfl, rfl, rfl⟩)
  obtain ⟨hroom, -⟩ := hfound 0 (herased _) fun c hc => absurd hc (Fin.not_lt_zero c)
  exact hroom (herased _)

/-! ### The end of an erase (R157 to R160) -/

theorem exec_sectorEraseDone_erasing {s : State} {x : Fin 4} {why : EraseWhy}
    (h : s.store.op = .erasing x why) (b : Vector Block 16) :
    exec (.sectorEraseDone b) s = .next (s.endErase x why b).storeStepDone := by
  show execSectorEraseDone b s = _
  simp only [execSectorEraseDone, h]

/-- The store, idle, with a sector's slots ERASED. -/
def withErased (x : Fin 4) (st : Store) : Store :=
  { st with
    slots := Vector.ofFn fun i : Fin 64 => if i.val / 16 = x.val then erasedBlock else st.slots[i]
    table := st.table.mapIdx fun i y => if i / 16 = x.val then .erased else y
    op := .idle }

@[simp] theorem withErased_usable (x : Fin 4) (st : Store) : (withErased x st).usable = st.usable := by
  unfold withErased
  rfl

@[simp] theorem withErased_next (x : Fin 4) (st : Store) : (withErased x st).next = st.next := by
  unfold withErased
  rfl

theorem withErased_slots (x : Fin 4) (st : Store) (i : Fin 64) : (withErased x st).slots[i]
    = if i.val / 16 = x.val then erasedBlock else st.slots[i] := Vector.getElem_ofFn i.isLt

theorem withErased_table (x : Fin 4) (st : Store) (i : Nat) : (withErased x st).table[i]?
    = if i / 16 = x.val then st.table[i]?.map fun _ => .erased else st.table[i]? := by
  refine List.getElem?_mapIdx.trans ?_
  split <;> simp

theorem withErased_inside (x : Fin 4) {st : Store} (hl : st.table.length = 64) (j : Fin 16) :
    (withErased x st).slots[16 * x.val + j.val]? = some erasedBlock
      ∧ (withErased x st).table[16 * x.val + j.val]? = some .erased := by
  have hin : (16 * x.val + j.val) / 16 = x.val := by omega
  have hlt : 16 * x.val + j.val < 64 := by omega
  rw [withErased_table, if_pos hin, List.getElem?_eq_getElem (hl.symm ▸ hlt),
    Vector.getElem?_eq_getElem hlt]
  exact ⟨congrArg some ((withErased_slots x st ⟨_, hlt⟩).trans (if_pos hin)), rfl⟩

theorem withErased_outside {x : Fin 4} {i : Fin 64} (h : i.val / 16 ≠ x.val) (st : Store) :
    (withErased x st).slots[i] = st.slots[i] ∧ (withErased x st).table[i.val]? = st.table[i.val]? := by
  rw [withErased_slots, withErased_table, if_neg h, if_neg h]
  exact ⟨rfl, rfl⟩

/-- What an erase verified good is followed by (R158, R159). -/
def afterErase (x : Fin 4) (s : State) : EraseWhy → State
  | .repair => s.repairOrPrepare
  | .noErasedSlot => ({ s with store := { s.store with next := firstSlot x } } : State).prepareRoom
  | .roomForTwo => s.finishPreparation

/-- An erase verified good leaves the sector's slots ERASED, and goes on by its purpose. -/
theorem endErase_good (x : Fin 4) (why : EraseWhy) (s : State) :
    s.endErase x why (Vector.replicate 16 erasedBlock)
      = afterErase x { s with store := withErased x s.store } why := by
  have hcontents : ∀ j : Nat,
      ((Vector.replicate 16 erasedBlock)[j]?).getD erasedBlock = erasedBlock := fun j => by
    rw [Vector.getElem?_replicate]
    split <;> rfl
  have hgood : (Vector.replicate 16 erasedBlock).toList.all (· == erasedBlock) = true := by simp
  unfold State.endErase
  simp only [hcontents, judgeSlot_erasedBlock, setSector_eq_ofFn, setTable_eq_mapIdx]
  rw [if_pos hgood]
  unfold afterErase withErased
  cases why <;> rfl

/-- An erase verified failed enters the slots as read back, and leaves the store unusable with the report
UNRECORDED (R157, R161). -/
theorem endErase_failed (x : Fin 4) (why : EraseWhy) {b : Vector Block 16}
    (h : ∃ j : Fin 16, b[j] ≠ erasedBlock) (s : State) : ∃ table seq, s.endErase x why b =
      ({ s with store := { s.store with
        slots := setSector x (fun j => (b[j]?).getD erasedBlock) s.store.slots
        table := table, op := .idle, usable := false, drainSeq := seq
        report := ⟨.unrecorded, none, s.power.cause⟩ } } : State).raise
          ⟨.storeFault, none, none, none, none, .erase x.val⟩ := by
  obtain ⟨j, hj⟩ := h
  have hbad : b.toList.all (· == erasedBlock) = false := by
    rw [List.all_eq_false]
    exact ⟨b[j], by simp, by simpa using hj⟩
  unfold State.endErase
  simp only [hbad]
  exact ⟨_, _, rfl⟩

/-- An erase's verification fails: INIT goes on with an unusable store (R157, R160). -/
theorem sectorErase_failed {s : State} {x : Fin 4} {why : EraseWhy} {b : Vector Block 16}
    (h : s.store.op = .erasing x why) (hbad : ∃ j : Fin 16, b[j] ≠ erasedBlock) :
    ∃ t, exec (.sectorEraseDone b) s = .next t
      ∧ t.store.usable = false ∧ t.store.op = .idle
      ∧ t.store.report = ⟨.unrecorded, none, s.power.cause⟩
      ∧ (∀ j : Fin 16, t.store.slots[16 * x.val + j.val]? = some b[j])
      ∧ (∀ i : Fin 64, i.val / 16 ≠ x.val → t.store.slots[i] = s.store.slots[i])
      ∧ t.power = { s.power with initStep := some .calibrate }
      ∧ t.mgmt = s.mgmt.record ⟨.storeFault, none, none, none, none, .erase x.val⟩ := by
  obtain ⟨table, seq, hend⟩ := endErase_failed x why hbad s
  rw [exec_sectorEraseDone_erasing h, hend, storeStepDone_idle rfl]
  refine ⟨_, rfl, rfl, rfl, rfl, fun j => ?_, fun i hi => ?_, rfl, rfl⟩
  · simp only [beginMeterStep_store, State.raise_store]
    rw [setSector_place]
    simp
  · simp only [beginMeterStep_store, State.raise_store]
    exact setSector_elsewhere hi _ _

/-- An erase of step 4 is good: preparation is over (R159). -/
theorem sectorErase_roomForTwo {s : State} {x : Fin 4} (h : s.store.op = .erasing x .roomForTwo) :
    exec (.sectorEraseDone (Vector.replicate 16 erasedBlock)) s
      = .next ({ s with store := withErased x s.store } : State).finishPreparation.beginMeterStep := by
  rw [exec_sectorEraseDone_erasing h, endErase_good, afterErase, storeStepDone_idle rfl]

/-- An erase of step 3 is good: the next slot is the sector's first, with room for two (R159). -/
theorem sectorErase_noErasedSlot {s : State} {x : Fin 4} (h : s.store.op = .erasing x .noErasedSlot)
    (hl : s.store.table.length = 64) :
    exec (.sectorEraseDone (Vector.replicate 16 erasedBlock)) s
      = .next ({ s with store := { withErased x s.store with next := firstSlot x } } :
          State).finishPreparation.beginMeterStep := by
  have hroom : (withErased x s.store).isState (firstSlot x + 1) .erased := by
    have hplace : (firstSlot x + 1).val = 16 * x.val + 1 := by
      rw [Fin.val_add_eq_of_add_lt] <;> simp [firstSlot] ; omega
    unfold Store.isState
    rw [hplace]
    exact (withErased_inside x hl 1).2
  rw [exec_sectorEraseDone_erasing h, endErase_good, afterErase, prepareRoom_finishes (by exact hroom),
    storeStepDone_idle rfl]

/-- A repair verified good: INIT goes on by the slot table, the sector ERASED (R158). -/
theorem sectorErase_repair {s : State} {x : Fin 4} (h : s.store.op = .erasing x .repair)
    (hl : s.store.table.length = 64) :
    ({ s with store := withErased x s.store } : State).preparesTo
      (exec (.sectorEraseDone (Vector.replicate 16 erasedBlock)) s) := by
  rw [exec_sectorEraseDone_erasing h, endErase_good]
  exact preparesTo_repairOrPrepare (List.length_mapIdx.trans hl) rfl

/-- Settles O43: the scan and a repair go on by the slot table; an erase of preparation ends it, and one
verified failed ends the store's work. The clauses after the fourth stand inside its quantifiers. -/
theorem storeWorkDone : Obligations.StoreWorkDone := by
  refine ⟨fun s hscan hslots => ?blank, fun s => exec_scanDone_other,
    fun s x why b => sectorErase_failed, fun s x b hop hb hl => ?room⟩
  case blank =>
    have hjudged : s.store.slots.toList.map judgeSlot = List.replicate 64 .erased := by
      rw [hslots, Vector.toList_replicate, List.map_replicate, judgeSlot_erasedBlock]
    rw [preparesTo_allErased (scanDone_preparesTo hscan) hjudged, ← hjudged]
  case room =>
    obtain rfl : b = Vector.replicate 16 erasedBlock :=
      Vector.ext fun i hi => by simpa using hb ⟨i, hi⟩
    obtain ⟨t, ht, hslots, htable, husable, hidle, hnext, hseq, hpower, hmgmt⟩ :=
      finishPreparation_leads s _ (sectorErase_roomForTwo hop)
    refine ⟨t, ht, husable.trans (withErased_usable x s.store), hidle, hnext.trans (withErased_next x s.store),
      fun j => ?inside, fun i hi => ?outside, hseq, hpower, hmgmt, fun s => scanDone_preparesTo,
      fun s x => sectorErase_repair, fun s x hop hl => ?noErased⟩
    case inside =>
      rw [hslots, htable]
      exact withErased_inside x hl j
    case outside =>
      rw [hslots, htable]
      exact withErased_outside hi s.store
    case noErased =>
      obtain ⟨t, ht, hslots, htable, husable, hidle, hnext, hseq, hpower, hmgmt⟩ :=
        finishPreparation_leads s _ (sectorErase_noErasedSlot hop hl)
      exact ⟨t, ht, by simpa using husable, hidle, congrArg Fin.val hnext, by simpa [withErased] using htable,
        fun i => by simpa [hslots] using withErased_slots x s.store i, hseq, hpower, hmgmt⟩

end Sys2Proof.MeterFamily
end

section
/-! The moves of the device state (Table 8-1): the data path and the management port move it along a drain
alone, and each of power control's inputs makes its own move. -/

namespace Sys2Proof.PowerFamily

open Sys2Proof.Machine Sys2Proof.HostFamily Sys2Proof.PortFamily

/-! ### Every command is taken (LOG 1) -/

/-- Every command answers with a next state. -/
theorem exec_next (c : Instr) (s : State) : ∃ t, exec c s = .next t := by
  have ite_next : ∀ {p : Prop} [Decidable p] {x y : State},
      ∃ t, (if p then .next x else .next y : Host.Outcome State Fault Refusal) = .next t := by
    intro p _ x y
    split <;> exact ⟨_, rfl⟩
  cases c with
  | memoryResponse k st d =>
    show ∃ t, execMemoryResponse k st d s = .next t
    unfold execMemoryResponse
    split <;> exact ⟨_, rfl⟩
  | responseLimitExpiry k =>
    show ∃ t, execResponseLimitExpiry k s = .next t
    unfold execResponseLimitExpiry
    split <;> exact ⟨_, rfl⟩
  | holdLimitExpiry p =>
    show ∃ t, execHoldLimitExpiry p s = .next t
    unfold execHoldLimitExpiry
    split
    · exact ite_next
    · exact ⟨_, rfl⟩
  | ageExpiry | rollbackNAssertion | por | supplyLoss | readFrame | requestFrame => exact ite_next
  | surveyEnd raw =>
    show ∃ t, execSurveyEnd raw s = .next t
    unfold execSurveyEnd
    split <;> exact ⟨_, rfl⟩
  | zeroSurveyEnd x =>
    show ∃ t, execZeroSurveyEnd x s = .next t
    unfold execZeroSurveyEnd
    split
    · split <;> exact ⟨_, rfl⟩
    all_goals exact ⟨_, rfl⟩
  | supplyTrip =>
    show ∃ t, execSupplyTrip s = .next t
    unfold execSupplyTrip
    split <;> exact ⟨_, rfl⟩
  | pfailNAssertion =>
    show ∃ t, execPfailNAssertion s = .next t
    unfold execPfailNAssertion
    split <;> exact ⟨_, rfl⟩
  | resetNAssertion =>
    show ∃ t, execResetNAssertion s = .next t
    unfold execResetNAssertion
    split <;> exact ⟨_, rfl⟩
  | supplyGood =>
    show ∃ t, execSupplyGood s = .next t
    unfold execSupplyGood
    split <;> exact ⟨_, rfl⟩
  | settleTimerExpiry =>
    show ∃ t, execSettleTimerExpiry s = .next t
    unfold execSettleTimerExpiry
    split <;> exact ⟨_, rfl⟩
  | slotProgramDone b =>
    show ∃ t, execSlotProgramDone b s = .next t
    unfold execSlotProgramDone
    split
    · exact ite_next
    all_goals exact ⟨_, rfl⟩
  | scanDone =>
    show ∃ t, execScanDone s = .next t
    unfold execScanDone
    split <;> exact ⟨_, rfl⟩
  | sectorEraseDone b =>
    show ∃ t, execSectorEraseDone b s = .next t
    unfold execSectorEraseDone
    split <;> exact ⟨_, rfl⟩
  | _ => exact ⟨_, rfl⟩

/-! ### The queue is left as it is -/

/-- A formed state with the queue `l`. -/
abbrev FormedWith (l : List Instr) (s : State) : Prop := Formed s ∧ s.pending = l

/-- No primitive update of the data path touches the queue. -/
theorem formedWith_dataKept (l : List Instr) : DataKept (FormedWith l) where
  now t h := h.imp_left (formed_dataKept.now t)
  host x hw hr h := h.imp_left (formed_dataKept.host x hw hr)
  epochs x h := h.imp_left (formed_dataKept.epochs x)
  wc x h := h.imp_left (formed_dataKept.wc x)
  raised e h := h.imp_left (formed_dataKept.raised e)
  retryOut x h := h.imp_left (formed_dataKept.retryOut x)
  meter x h := h.imp_left (formed_dataKept.meter x)
  entry i f hf h := h.imp_left (formed_dataKept.entry i f hf)
  removed i h := h.imp_left (formed_dataKept.removed i)
  created n a p hl ha h := h.imp_left (formed_dataKept.created n a p hl ha)
  engine g hg h := h.imp_left (formed_dataKept.engine g hg)
  queue q h := h.imp_left (formed_dataKept.queue q)
  issued t r ht h := h.imp_left (formed_dataKept.issued t r ht)
  tag t x hx h := h.imp_left (formed_dataKept.tag t x hx)
  commits n hd h := h.imp_left (formed_dataKept.commits n hd)

/-- No primitive update of the part touches the queue. -/
theorem formedWith_kept (l : List Instr) : Kept (FormedWith l) where
  toDataKept := formedWith_dataKept l
  device h := formed_kept.device h.1
  reserved h ht := formed_kept.reserved h.1 ht
  freeCount n h := h.imp_left (formed_kept.freeCount n)
  pins x h := h.imp_left (formed_kept.pins x)
  bus x h := h.imp_left (formed_kept.bus x)
  tookWrite x hd hl h := h.imp_left (formed_kept.tookWrite x hd hl)
  tookRead x hd hl h := h.imp_left (formed_kept.tookRead x hd hl)
  cls x h := h.imp_left (formed_kept.cls x)
  limit n h := h.imp_left (formed_kept.limit n)
  store st ho h := h.imp_left (formed_kept.store st ho)
  program b x hd h := h.imp_left (formed_kept.program b x hd)
  cause c h := h.imp_left (formed_kept.cause c)
  remembered b h := h.imp_left (formed_kept.remembered b)
  phase ph hn hd h := h.imp_left (formed_kept.phase ph hn hd)
  initStep x hd ho h := h.imp_left (formed_kept.initStep x hd ho)
  scan hd h := h.imp_left (formed_kept.scan hd)
  toReady hd ho h := h.imp_left (formed_kept.toReady hd ho)
  toDrain c b hd h := h.imp_left (formed_kept.toDrain c b hd)
  toSpent hd ho h := h.imp_left (formed_kept.toSpent hd ho)
  settle x hd h := h.imp_left (formed_kept.settle x hd)
  toInit c x hd ho h := h.imp_left (formed_kept.toInit c x hd ho)
  por a hd h := h.imp_left (formed_kept.por a hd)
  off a h := h.imp_left (formed_kept.off a)
  longOut r c h := h.imp_left (formed_kept.longOut r c)
  response r h := h.imp_left (formed_kept.response r)
  link x b a h := h.imp_left (formed_kept.link x b a)
  flags m h := h.imp_left (formed_kept.flags m)
  mask m h := h.imp_left (formed_kept.mask m)
  events e m he h := h.imp_left (formed_kept.events e m he)

/-- A command leaves the queue as it is. -/
theorem exec_pending {c : Instr} {s t : State} (h : Formed s) (ht : exec c s = .next t) :
    t.pending = s.pending := by
  obtain ⟨_, hpending⟩ := (formedWith_kept s.pending).exec c ⟨h, rfl⟩ ht
  exact hpending

/-! ### Moves along a drain (R144, R147, R150) -/

/-- The device states a drain passes, from READY through DRAIN to SPENT, and each to itself. -/
def drainsTo (a b : DeviceState) : Prop :=
  b = a ∨ (a = .ready ∧ (b = .drain ∨ b = .spent)) ∨ (a = .drain ∧ b = .spent)

/-- The state `t` comes of `s` by an act that moves the device along a drain at most. -/
abbrev Drains (s t : State) : Prop := drainsTo s.power.device t.power.device

theorem Drains.of_eq {s t : State} (h : t.power.device = s.power.device) : Drains s t := .inl h

theorem Drains.refl (s : State) : Drains s s := .of_eq rfl

theorem drainsTo_trans {a b c : DeviceState} (hab : drainsTo a b) (hbc : drainsTo b c) :
    drainsTo a c := by
  unfold drainsTo at *
  grind

theorem Drains.trans {s t u : State} (hst : Drains s t) (htu : Drains t u) : Drains s u :=
  drainsTo_trans hst htu

/-- A drain's moves are moves of Table 8-1, or the one from READY to SPENT (LOG 12). -/
theorem movesTo_of_drainsTo {a b : DeviceState} (h : drainsTo a b) : a.movesTo b = true := by
  rcases h with rfl | ⟨rfl, rfl | rfl⟩ | ⟨rfl, rfl⟩
  · cases b <;> rfl
  all_goals rfl

theorem moves_of_eq {s t : State} (h : t.power.device = s.power.device) :
    s.power.device.movesTo t.power.device = true := movesTo_of_drainsTo (Drains.of_eq h)

theorem moves_of {s t : State} {a b : DeviceState} (hs : s.power.device = a) (ht : t.power.device = b)
    (h : a.movesTo b = true) : s.power.device.movesTo t.power.device = true := by
  rwa [hs, ht]

/-- A drain does not lead to INIT. -/
theorem Drains.init {s t : State} (h : Drains s t) (hd : t.power.device = .init) :
    s.power.device = .init := by
  rcases h with h | ⟨_, h | h⟩ | ⟨_, h⟩ <;> rw [h] at hd
  · exact hd
  all_goals cases hd

/-! ### The data path's operations -/

/-- The data path's primitive updates leave the device state. -/
theorem dataKept_device (d : DeviceState) : DataKept fun t => t.power.device = d where
  now _ h := h
  host _ _ _ h := h
  epochs _ h := h
  wc _ h := h
  raised _ h := h
  retryOut _ h := h
  meter _ h := h
  entry _ _ _ h := h
  removed _ h := h
  created _ _ _ _ _ h := h
  engine _ _ h := h
  queue _ h := h
  issued _ _ _ h := h
  tag _ _ _ h := h
  commits _ _ h := h

@[simp] theorem settleCheck_device (s : State) : s.settleCheck.power.device = s.power.device := by
  unfold State.settleCheck
  split
  · split
    · split
      · rfl
      · simp
    · rfl
  · rfl

@[simp] theorem enterSpent_device (s : State) : s.enterSpent.power.device = .spent := by
  unfold State.enterSpent
  rw [settleCheck_device, MeterFamily.wakeMeter_mode]

@[simp] theorem endDrain_device (s : State) : s.endDrain.power.device = .spent := by
  unfold State.endDrain
  dsimp only
  split <;> exact enterSpent_device s

/-- With the END record handed over the part is in DRAIN still, and with no record to write in SPENT. -/
theorem record_drains {s : State} (hd : s.power.device = .drain) : Drains s s.record := by
  unfold State.record
  dsimp only
  split
  · unfold State.programRecord
    split <;> exact .of_eq rfl
  · exact .inr (.inr ⟨hd, endDrain_device _⟩)

theorem handOver_device (s : State) : s.handOver.power.device = s.power.device := by
  have k := dataKept_device s.power.device
  have hlinger : ∀ t : State, t.lingerPass.power.device = t.power.device := fun _ => rfl
  unfold State.handOver
  dsimp only
  refine k.runEngine ((hlinger _).trans ?_)
  refine kept_foldl (P := fun t => t.power.device = s.power.device)
    (fun _ n h => k.enqueueJob .retry n .drain h) _ ?_
  exact kept_foldl (P := fun t => t.power.device = s.power.device)
    (fun _ n h => k.enterRollingQueued n .drain h) _ rfl

/-- The end of an act moves the device along a drain at most. -/
theorem endAct_drains (s : State) : Drains s s.endAct := by
  have hpass : ∀ t : State, Drains t t.runPasses := fun t =>
    .of_eq ((dataKept_device _).runPasses rfl)
  have hsettling : ∀ t : State, Drains t t.testSettling := by
    intro t
    unfold State.testSettling
    split
    · exact .of_eq (handOver_device t)
    · exact .refl t
  have hrolling : ∀ t : State, Drains t t.testRollingBack := by
    intro t
    unfold State.testRollingBack
    split
    next h => exact record_drains h.1
    next => exact .refl t
  exact (((hpass s).trans (hsettling _)).trans (hrolling _)).trans (hpass _)

/-- An act of the data path that ends: its operations leave the device, and its end moves it along a drain. -/
theorem drains_endAct {s t : State} (h : t.power.device = s.power.device) : Drains s t.endAct :=
  .trans (.of_eq h) (endAct_drains t)

/-- Taking waiting requests leaves the device state: the port is open in READY alone. -/
theorem acceptWaiting_device (s : State) : s.acceptWaiting.power.device = s.power.device := by
  by_cases hd : s.power.device = .drain
  · rw [acceptWaiting_closed (by simp [hd])]
  · rw [((DataFrame.refl s).acceptWaiting hd).unmoved.power]

theorem loseHeld_device (s : State) : s.loseHeld.power.device = s.power.device :=
  kept_foldl (P := fun t => t.power.device = s.power.device)
    (fun _ it h => (dataKept_device _).loseItem it h) _ rfl

theorem beginDrain_drains {s : State} (c : DrainCause) (hd : s.power.device = .ready) :
    Drains s (s.beginDrain c) := by
  have hprogram : ∀ (t : State) (b : Bool) (x : Block), t.power.device = .drain →
      (t.programRecord b x).power.device = .drain := by
    intro t b x ht
    unfold State.programRecord
    split <;> exact ht
  have habandon : ∀ t : State, t.power.device = .drain → t.abandonCalibration.power.device = .drain := by
    intro t ht
    unfold State.abandonCalibration
    split <;> exact ht
  refine .trans (t := { s with power := { s.power with device := .drain } }) (.inr (.inl ⟨hd, .inl rfl⟩))
    (drains_endAct ?_)
  exact hprogram _ _ _ (habandon _ (loseHeld_device _))

theorem rollbackAll_device (s : State) : s.rollbackAll.power.device = s.power.device := by
  unfold State.rollbackAll
  exact kept_foldl (P := fun t => t.power.device = s.power.device)
    (fun _ n h => (dataKept_device _).enterRolling n .line h) allStreams rfl

/-! ### The data path's commands -/

/-- A command of the data path moves the device along a drain at most. -/
theorem dataPath_drains {c : Instr} {s t : State} (hc : c.isDataPath = true) (ht : exec c s = .next t) :
    Drains s t := by
  have k := dataKept_device s.power.device
  cases c with
  | hostWriteRequest w => cases ht; exact .of_eq (acceptWaiting_device _)
  | hostReadRequest r => cases ht; exact .of_eq (acceptWaiting_device _)
  | hostResponseTaken ch =>
    cases ht
    refine .trans (drains_endAct ?_) (.of_eq (acceptWaiting_device _))
    rfl
  | issueRequest => cases ht; exact .of_eq (k.offerTags rfl)
  | memoryResponse tag st d =>
    change execMemoryResponse tag st d s = _ at ht
    unfold execMemoryResponse at ht
    have hrel : (s.releaseTag tag.toNat).power.device = s.power.device := k.releaseTag _ rfl
    split at ht <;> cases ht
    next r _ _ _ =>
      cases st with
      | ok => exact drains_endAct (k.handOk r d hrel)
      | error => exact drains_endAct (k.handBad r false hrel)
    next tie _ =>
      cases tie with
      | none => exact drains_endAct hrel
      | some tie => exact drains_endAct (k.lateArrival tie hrel)
    all_goals exact .refl s
  | responseLimitExpiry tag =>
    change execResponseLimitExpiry tag s = _ at ht
    unfold execResponseLimitExpiry at ht
    split at ht <;> cases ht
    next r _ _ _ => exact drains_endAct (k.handBad r true rfl)
    all_goals exact .refl s
  | holdLimitExpiry p =>
    change execHoldLimitExpiry p s = _ at ht
    unfold execHoldLimitExpiry at ht
    split at ht
    · split at ht <;> cases ht
      · exact drains_endAct (k.owePass (k.expireItem _ rfl))
      · exact .refl s
    · cases ht; exact .refl s
  | ageExpiry n =>
    change execAgeExpiry n s = _ at ht
    unfold execAgeExpiry at ht
    split at ht <;> cases ht
    · exact drains_endAct (k.enterRolling n .aged rfl)
    · exact .refl s
  | rollbackNAssertion =>
    change execRollbackNAssertion s = _ at ht
    unfold execRollbackNAssertion at ht
    split at ht <;> injection ht with ht <;> rw [← ht]
    · exact drains_endAct (rollbackAll_device s)
    · exact .refl s
  | _ => cases hc

/-! ### The management port's commands -/

theorem judged_drains {α : Type} {s : State} {taken : Bool} {v : Option α} {f : α → State → State}
    (hf : taken = true → ∀ a, Drains s (f a s)) : Drains s (s.judged taken v f) := by
  unfold State.judged
  split
  next htaken =>
    split
    · exact hf htaken _
    · exact .refl s
  next => exact .refl s

theorem setStreamConfig_drains (n : StreamId) (c : StreamConfig) (s : State) :
    Drains s (s.setStreamConfig n c) := by
  have k := dataKept_device s.power.device
  unfold State.setStreamConfig
  dsimp only
  have hexpired := k.expireOverdue n (k.updStream (s := s) n (Stream.configure c) rfl)
  have haged : ∀ t : State, t.power.device = s.power.device →
      (if t.ageOver n then t.enterRolling n .aged else t).power.device = s.power.device := by
    intro t ht
    split
    · exact k.enterRolling _ _ ht
    · exact ht
  refine drains_endAct ?_
  split
  · exact haged _ hexpired
  · exact k.owePass (haged _ hexpired)

theorem abortStream_drains (n : StreamId) (s : State) : Drains s (s.abortStream n) := by
  have hroll := drains_endAct ((dataKept_device s.power.device).enterRolling n .mgmt rfl)
  unfold State.abortStream
  split
  · exact hroll
  · exact hroll
  all_goals exact .refl s

theorem setMeterConfig_drains (c : MeterConfig) (s : State) : Drains s (s.setMeterConfig c) := by
  have k := dataKept_device s.power.device
  unfold State.setMeterConfig
  exact drains_endAct (k.owePass (k.evalShortfall rfl))

theorem beginRetry_drains (n : StreamId) (s : State) : Drains s (s.beginRetry n) := by
  unfold State.beginRetry
  exact drains_endAct ((dataKept_device s.power.device).runEngine rfl)

theorem discardFailed_drains (n : StreamId) (s : State) : Drains s (s.discardFailed n) := by
  have k := dataKept_device s.power.device
  have hfreed := k.freeEntries (s := s) (s.failedIndexes n) rfl
  unfold State.discardFailed
  dsimp only
  exact drains_endAct (k.owePass (k.updStream n _ hfreed))

/-- A management command moves the device along a drain at most: RESTART, which is taken in READY alone. -/
theorem runCommand_drains (i : Instr) (s : State) : Drains s (s.runCommand i) := by
  cases i with
  | status part =>
    refine .of_eq ?_
    show (s.statusCmd part).power.device = _
    unfold State.statusCmd
    repeat' split
    all_goals rfl
  | eventNext =>
    refine .of_eq ?_
    show s.eventNextCmd.power.device = _
    unfold State.eventNextCmd
    split <;> rfl
  | outcome => exact judged_drains fun _ _ => by split <;> exact .refl s
  | regionSet =>
    refine judged_drains fun _ _ => ?_
    unfold State.setRegion
    repeat' split
    all_goals exact .refl s
  | sourceMapSet =>
    refine judged_drains fun _ _ => ?_
    unfold State.setSource
    split <;> exact .refl s
  | calibrate => exact judged_drains fun _ _ => by split <;> exact .refl s
  | streamInfo | regionInfo | failedList | entryImage | timeoutSet =>
    exact judged_drains fun _ _ => .refl s
  | streamSet => exact judged_drains fun _ v => setStreamConfig_drains v.1 v.2 s
  | meterSet => exact judged_drains fun _ c => setMeterConfig_drains c s
  | abort => exact judged_drains fun _ n => abortStream_drains n s
  | resumeRetry =>
    refine judged_drains fun _ n => ?_
    split
    · exact beginRetry_drains n s
    · exact .refl s
  | resumeDiscard =>
    refine judged_drains fun _ n => ?_
    split
    · exact discardFailed_drains n s
    · exact .refl s
  | restart =>
    refine judged_drains fun hready _ => ?_
    exact beginDrain_drains (s := { s with mgmt := { s.mgmt with restartOut := true } }) _
      (by simpa [State.isReady] using hready)
  | _ => exact .refl s

theorem judgeFrame_drains (a : Byte) (l : List Byte) (b : Bool) (s : State) :
    Drains s (s.judgeFrame a l b) := by
  unfold State.judgeFrame
  split
  · exact .refl s
  · exact .refl s
  · unfold State.runFrame
    split
    · exact runCommand_drains _ s
    · exact judged_drains fun _ _ => .refl s

theorem endFrame_drains (s : State) : Drains s s.endFrame := by
  unfold State.endFrame
  split
  · exact .refl s
  · exact judgeFrame_drains _ _ _ (s.setReceiver .idle)
  · exact .refl s

theorem byFrame_drains (i : Instr) (s : State) : Drains s (s.byFrame i) := by
  unfold State.byFrame
  split
  · exact .refl s
  · exact (endFrame_drains s).trans (runCommand_drains i _)

theorem readFrame_drains (a : Byte) (l : List Bool) (b : Bool) (s : State) :
    Drains s (s.readFrame a l b) := by
  unfold State.readFrame
  repeat' split
  all_goals exact .refl s

theorem requestFrame_drains (a : Byte) (l : List Byte) (b : Bool) (s : State) :
    Drains s (s.requestFrame a l b) := by
  unfold State.requestFrame State.takeRequest
  split
  · split
    · dsimp only
      split
      · exact judgeFrame_drains a _ _ (s.acknowledge _)
      · exact .refl s
    · exact .refl s
  · exact .refl s

/-! ### Power control's inputs, and the ends of surveys and store work -/

theorem leaveClearStep_device (s : State) : s.leaveClearStep.power.device = s.power.device := by
  unfold State.leaveClearStep State.beginStoreStep
  repeat' split
  all_goals rfl

theorem storeStepDone_device (s : State) : s.storeStepDone.power.device = s.power.device := by
  unfold State.storeStepDone
  split <;> rfl

@[simp] theorem cutInit_device (c : DrainCause) (s : State) : (s.cutInit c).power.device = .spent :=
  enterSpent_device _

theorem restartInit_device (s : State) : s.restartInit.power.device = s.power.device := by
  unfold State.restartInit
  dsimp only
  obtain ⟨mode, hdrop⟩ := MeterFamily.dropMeterWork_frame
    { ({ s.cutStore with power := { s.cutStore.power with resetRemembered := true } } : State).clearBlocks true
      with power := { (({ s.cutStore with power := { s.cutStore.power with resetRemembered := true } } :
        State).clearBlocks true).power with initStep := s.cutStore.power.initStep } }
  rw [leaveClearStep_device, hdrop]
  simp [State.clearBlocks]

/-- INIT ends in READY or in SPENT (R142, R143). -/
theorem finishInit_device (s : State) :
    s.finishInit.power.device = .ready ∨ s.finishInit.power.device = .spent := by
  unfold State.finishInit State.openOrSpend
  dsimp only
  split
  · exact .inr (cutInit_device _ _)
  · split
    · exact .inr (cutInit_device _ _)
    · exact .inl (acceptWaiting_device _)

/-- A publication ends INIT where it is the first survey's. -/
theorem afterPublication_moves {s t : State} (h : Drains s t) :
    s.power.device.movesTo t.afterPublication.power.device = true := by
  unfold State.afterPublication
  split
  next hinit =>
    rw [h.init hinit.1]
    rcases finishInit_device t with hd | hd <;> rw [hd] <;> rfl
  next => exact movesTo_of_drainsTo h

/-- A record is programmed in DRAIN alone (R156). -/
theorem programmed_inDrain {s : State} (h : s.deviceOk) {j : Fin 64} {e : Bool} {b : Block}
    (hop : s.store.op = .programming j e b) : s.power.device = .drain := by
  obtain ⟨_, _, _, hfits⟩ := h
  unfold State.storeOpFits at hfits
  rw [hop] at hfits
  simpa using hfits

@[simp] theorem endProgram_power (j : Fin 64) (b r : Block) (s : State) :
    (s.endProgram j b r).power = s.power := by
  unfold State.endProgram
  dsimp only
  split <;> rfl

theorem surveyEnd_moves {raw : BitVec 16} {s t : State} (ht : exec (.surveyEnd raw) s = .next t) :
    s.power.device.movesTo t.power.device = true := by
  have k := dataKept_device s.power.device
  change execSurveyEnd raw s = _ at ht
  unfold execSurveyEnd at ht
  split at ht <;> cases ht
  next sv _ => exact afterPublication_moves (drains_endAct (k.publish sv raw.toNat rfl))
  all_goals exact moves_of_eq rfl

theorem zeroSurveyEnd_device {x : BitVec 16} {s t : State} (ht : exec (.zeroSurveyEnd x) s = .next t) :
    t.power.device = s.power.device := by
  change execZeroSurveyEnd x s = _ at ht
  unfold execZeroSurveyEnd at ht
  split at ht
  · split at ht <;> cases ht
    · rfl
    · unfold State.afterCalibration
      split <;> simp
  all_goals cases ht; rfl

theorem por_moves {straps : BitVec 2} {s t : State} (ht : exec (.por straps) s = .next t) :
    s.power.device.movesTo t.power.device = true := by
  change execPor straps s = _ at ht
  unfold execPor at ht
  split at ht <;> cases ht
  next hd => exact moves_of hd (leaveClearStep_device _) rfl
  next => exact moves_of_eq rfl

theorem supplyLoss_moves {s t : State} (ht : exec .supplyLoss s = .next t) :
    s.power.device.movesTo t.power.device = true := by
  change execSupplyLoss s = _ at ht
  unfold execSupplyLoss at ht
  split at ht <;> cases ht
  · exact moves_of_eq rfl
  · show s.power.device.movesTo .off = true
    cases s.power.device <;> rfl

theorem supplyTrip_moves {s t : State} (ht : exec .supplyTrip s = .next t) :
    s.power.device.movesTo t.power.device = true := by
  change execSupplyTrip s = _ at ht
  unfold execSupplyTrip at ht
  split at ht <;> cases ht
  next => exact moves_of_eq rfl
  next hd => exact moves_of hd (cutInit_device _ _) rfl
  next hd => exact movesTo_of_drainsTo (beginDrain_drains (s := s.setSupply false) _ hd)
  next => exact moves_of_eq rfl
  next => exact moves_of_eq (settleCheck_device _)

theorem pfailNAssertion_moves {s t : State} (ht : exec .pfailNAssertion s = .next t) :
    s.power.device.movesTo t.power.device = true := by
  change execPfailNAssertion s = _ at ht
  unfold execPfailNAssertion at ht
  split at ht <;> cases ht
  next => exact moves_of_eq rfl
  next hd => exact moves_of hd (cutInit_device _ _) rfl
  next hd => exact movesTo_of_drainsTo (beginDrain_drains (s := s.setPfail false) _ hd)
  next => exact moves_of_eq rfl
  next => exact moves_of_eq (settleCheck_device _)

theorem resetNAssertion_moves {s t : State} (ht : exec .resetNAssertion s = .next t) :
    s.power.device.movesTo t.power.device = true := by
  change execResetNAssertion s = _ at ht
  unfold execResetNAssertion at ht
  split at ht <;> cases ht
  next => exact moves_of_eq rfl
  next => exact moves_of_eq (restartInit_device _)
  next hd => exact movesTo_of_drainsTo (beginDrain_drains (s := s.setReset false) _ hd)
  next => exact moves_of_eq rfl
  next => exact moves_of_eq (settleCheck_device _)

theorem supplyGood_device {s t : State} (ht : exec .supplyGood s = .next t) :
    t.power.device = s.power.device := by
  change execSupplyGood s = _ at ht
  unfold execSupplyGood at ht
  split at ht <;> cases ht <;> rfl

theorem resetReleased_device (s : State) : s.resetReleased.power.device = s.power.device := by
  unfold State.resetReleased
  split
  · exact leaveClearStep_device s
  · rfl

theorem settleTimerExpiry_moves {s t : State} (ht : exec .settleTimerExpiry s = .next t) :
    s.power.device.movesTo t.power.device = true := by
  change execSettleTimerExpiry s = _ at ht
  unfold execSettleTimerExpiry at ht
  split at ht <;> cases ht
  next hd _ => exact moves_of hd (leaveClearStep_device _) rfl
  next => exact moves_of_eq rfl

theorem slotProgramDone_moves {b : Block} {s t : State} (h : s.deviceOk)
    (ht : exec (.slotProgramDone b) s = .next t) : s.power.device.movesTo t.power.device = true := by
  change execSlotProgramDone b s = _ at ht
  unfold execSlotProgramDone at ht
  split at ht
  next hop =>
    split at ht <;> cases ht
    · exact moves_of (programmed_inDrain h hop) (endDrain_device _) rfl
    · exact movesTo_of_drainsTo (drains_endAct (by simp))
  all_goals cases ht; exact moves_of_eq rfl

theorem scanDone_device {s t : State} (ht : exec .scanDone s = .next t) :
    t.power.device = s.power.device := by
  change execScanDone s = _ at ht
  unfold execScanDone at ht
  split at ht <;> cases ht
  next => rw [storeStepDone_device, endScan_power]
  all_goals rfl

theorem sectorEraseDone_device {b : Vector Block 16} {s t : State}
    (ht : exec (.sectorEraseDone b) s = .next t) : t.power.device = s.power.device := by
  change execSectorEraseDone b s = _ at ht
  unfold execSectorEraseDone at ht
  split at ht <;> injection ht with ht <;> rw [← ht]
  rw [storeStepDone_device, endErase_power]

/-- Every command moves the device state along Table 8-1, or from READY to SPENT in one act (LOG 12). -/
theorem exec_moves {c : Instr} {s t : State} (h : s.deviceOk) (ht : exec c s = .next t) :
    s.power.device.movesTo t.power.device = true := by
  cases c with
  | hostWriteRequest | hostReadRequest | hostResponseTaken | issueRequest | memoryResponse
  | responseLimitExpiry | holdLimitExpiry | ageExpiry | rollbackNAssertion =>
    exact movesTo_of_drainsTo (dataPath_drains rfl ht)
  | surveyEnd => exact surveyEnd_moves ht
  | zeroSurveyEnd => exact moves_of_eq (zeroSurveyEnd_device ht)
  | por => exact por_moves ht
  | supplyLoss => exact supplyLoss_moves ht
  | supplyTrip => exact supplyTrip_moves ht
  | pfailNAssertion => exact pfailNAssertion_moves ht
  | resetNAssertion => exact resetNAssertion_moves ht
  | supplyGood => exact moves_of_eq (supplyGood_device ht)
  | pfailNRise => cases ht; exact moves_of_eq (settleCheck_device _)
  | resetNRise =>
    cases ht
    exact moves_of_eq ((settleCheck_device _).trans (resetReleased_device _))
  | settleTimerExpiry => exact settleTimerExpiry_moves ht
  | slotProgramDone => exact slotProgramDone_moves h ht
  | scanDone => exact moves_of_eq (scanDone_device ht)
  | sectorEraseDone => exact moves_of_eq (sectorEraseDone_device ht)
  | linkStuck => cases ht; exact moves_of_eq rfl
  | readFrame a l b =>
    change execReadFrame a l b s = _ at ht
    unfold execReadFrame at ht
    split at ht <;> cases ht
    · exact moves_of_eq rfl
    · exact movesTo_of_drainsTo ((endFrame_drains s).trans (readFrame_drains a l b _))
  | requestFrame a l b =>
    change execRequestFrame a l b s = _ at ht
    unfold execRequestFrame at ht
    split at ht <;> cases ht
    · exact moves_of_eq rfl
    · exact movesTo_of_drainsTo ((endFrame_drains s).trans (requestFrame_drains a l b _))
  | _ => cases ht; exact movesTo_of_drainsTo (byFrame_drains _ s)

/-- Settles O2: a command answers with a next state, no primitive update touches the queue, and the device
moves along a drain or by the input's own move. -/
theorem everyCommandTaken : Obligations.EveryCommandTaken := by
  intro c s hdevice hreserved
  obtain ⟨t, ht⟩ := exec_next c s
  exact ⟨t, ht, exec_pending ⟨hdevice, hreserved⟩ ht, exec_moves hdevice ht⟩

end Sys2Proof.PowerFamily
end

section
/-! POR, the loss of supply, and the settle timer in SPENT (R141, R142, R152, R156, R157). -/

namespace Sys2Proof.PowerFamily

open Sys2Proof.Machine

/-! ### What POR leaves (R141) -/

/-- Every stream has its record of POR after reset (Table 2-5). -/
@[simp] theorem reset_stream (n : StreamId) : State.reset.stream n = Stream.por := by
  simp [State.stream, State.reset]

/-- Settles O3: the values are those the blocks are set to at POR, window by window, source by source,
stream by stream and tag by tag. -/
theorem resetHoldsPorValues : Obligations.ResetHoldsPorValues := by
  have hwindows : ∀ w : Fin 8, State.reset.cls.windows[w] = ⟨false, .journal, 0, 1⟩ := by
    simp [State.reset, Classifier.por]
  have hsources : ∀ x : SourceId, State.reset.cls.sourceMap[x] = none := by
    simp [State.reset, Classifier.por]
  refine ⟨rfl, rfl, rfl, rfl, rfl, rfl, rfl, hwindows, hsources, rfl, rfl, rfl, fun n => ?streams, rfl, rfl,
    MeterFamily.por_tags_free, rfl, rfl, rfl, rfl, rfl, rfl, rfl, rfl, rfl, rfl, rfl, rfl, rfl, rfl, rfl, rfl,
    rfl, rfl, rfl, rfl, rfl, rfl, rfl, rfl, rfl, rfl, rfl, rfl⟩
  rw [reset_stream]
  exact ⟨rfl, rfl, rfl, rfl, rfl, rfl, rfl, rfl, rfl, rfl, rfl, rfl, rfl, rfl, rfl, rfl⟩

theorem exec_por_off {s : State} (straps : BitVec 2) (h : s.power.device = .off) :
    exec (.por straps) s = .next ((s.setSupply true).volatileAtPor .init (some .clear)
      (strappedAddress straps)).leaveClearStep := if_pos h

/-- With a usable store INIT goes on to the scan where RESET_N is high, and else waits in step 1 (R142). -/
theorem leaveClearStep_usable {s : State} (h : s.store.usable = true) :
    s.leaveClearStep = if s.pins.resetHigh then { s with
        power := { s.power with initStep := some .store, resetRemembered := false }
        store := { s.store with op := .scanning } }
      else s.toInitStep .clear := by
  split
  next hreset => exact MeterFamily.leaveClearStep_scans hreset h
  next hreset => exact MeterFamily.leaveClearStep_low (by simpa using hreset)

/-- Settles O35: the blocks take their POR values, and step 1 of INIT is left where RESET_N is high. -/
theorem porBeginsInit : Obligations.PorBeginsInit := by
  refine fun s straps => ⟨fun hoff => ?begun, fun hon => if_neg hon⟩
  rw [exec_por_off straps hoff, leaveClearStep_usable rfl]
  cases hreset : s.pins.resetHigh with
  | false => rw [if_neg (by simp [State.volatileAtPor, hreset])]; rfl
  | true => rw [if_pos (by simp [State.volatileAtPor, hreset])]; rfl

/-! ### The loss of supply (R141, R156, R157) -/

theorem exec_supplyLoss_on {s : State} (h : s.power.device ≠ .off) :
    exec .supplyLoss s = .next ((s.setSupply false).cutStore.volatileAtPor .off none 0x5C#7) := if_neg h

/-- A slot of 00h holds no record kind, and is not erased (R180). -/
theorem judgeSlot_zeroBlock : judgeSlot zeroBlock = .invalid := by
  have hkind : (isBeginByte zeroBlock[0] || zeroBlock[0] == 0x20#8) = false := by decide
  have hbytes : zeroBlock.toList.all (· == 0xFF#8) = false := by decide
  obtain ⟨hbegin, hend⟩ := Bool.or_eq_false_iff.1 hkind
  unfold judgeSlot
  simp [hbytes, hbegin, hend]

/-- A disturbed slot reads INVALID (R157). -/
theorem judgeSlot_disturbedBlock (k j : Nat) : judgeSlot (disturbedBlock k j) = .invalid := by
  unfold disturbedBlock
  dsimp only
  split
  next h => exact h
  next => exact judgeSlot_zeroBlock

/-- A program that is cut leaves the slot ERASED, INVALID or with its record (R156). -/
theorem cutProgramBlock_judged (k : Nat) (r : Block) :
    judgeSlot (cutProgramBlock k r) = .erased ∨ judgeSlot (cutProgramBlock k r) = .invalid
      ∨ cutProgramBlock k r = r := by
  unfold cutProgramBlock
  split
  · exact .inl MeterFamily.judgeSlot_erasedBlock
  · exact .inr (.inl (judgeSlot_disturbedBlock k 0))
  · exact .inr (.inr rfl)

theorem cutStore_programming {s : State} {j : Fin 64} {b : Bool} {r : Block}
    (h : s.store.op = .programming j b r) :
    s.cutStore.store.slots = s.store.slots.set j (cutProgramBlock s.freeCount r) := by
  unfold State.cutStore
  simp only [h]

/-- An erase that is cut changes no slot of another sector (R157). -/
theorem cutStore_erasing {s : State} {x : Fin 4} {y : EraseWhy} (h : s.store.op = .erasing x y)
    {i : Fin 64} (hi : i.val / 16 ≠ x.val) : s.cutStore.store.slots[i] = s.store.slots[i] := by
  unfold State.cutStore
  simp only [h]
  exact MeterFamily.setSector_elsewhere hi _ _

/-- Settles O36: the volatile blocks take their values of POR, and the cut leaves the slots as they are but
for what is being programmed or erased. -/
theorem supplyLossEntersOff : Obligations.SupplyLossEntersOff := by
  intro s hon
  obtain ⟨k, slots, hcut⟩ := MeterFamily.cutStore_frame (s.setSupply false)
  refine ⟨_, exec_supplyLoss_on hon, rfl, by rw [hcut]; rfl, rfl, rfl, rfl, rfl, rfl,
    MeterFamily.por_tags_free, fun n => ?streams, rfl, rfl, rfl, by rw [hcut]; rfl, by rw [hcut]; rfl,
    fun hop => ?untorn, fun j b r hop => ?programming, fun x y hop i hi => ?erasing⟩
  case streams => exact reset_stream n
  case untorn =>
    rw [MeterFamily.cutStore_untorn (s := s.setSupply false) hop]
    rfl
  case programming =>
    have hslots : ((s.setSupply false).cutStore.volatileAtPor .off none 0x5C#7).store.slots
        = s.store.slots.set j (cutProgramBlock s.freeCount r) :=
      cutStore_programming (s := s.setSupply false) hop
    rw [hslots]
    refine ⟨fun i hi => ?_, ?_⟩
    · have hne : j.val ≠ i.val := fun he => hi (Fin.ext he.symm)
      simp [hne]
    · simpa using cutProgramBlock_judged s.freeCount r
  case erasing => exact cutStore_erasing (s := s.setSupply false) hop hi

/-! ### The settle timer in SPENT (R152) -/

theorem allHold_iff (p : Pins) : p.allHold = true ↔ p.settled := by
  simp [Pins.allHold, Pins.settled, and_assoc]

/-- In SPENT a settle timer that runs goes on while the conditions hold, and any other stands as at an entry
into SPENT. -/
theorem settleCheck_spent {s : State} (hd : s.power.device = .spent) :
    s.settleCheck = if s.pins.settled ∧ s.power.settleSince.isSome = true then s else s.settling := by
  cases htimer : s.power.settleSince with
  | none => simpa using settleCheck_stopped hd htimer
  | some since =>
    by_cases hp : s.pins.settled
    · have hall := (allHold_iff s.pins).2 hp
      unfold State.settleCheck
      simp [hd, hall, htimer, hp]
    · have hall : s.pins.allHold = false := by rw [← Bool.not_eq_true, allHold_iff]; exact hp
      rw [MeterFamily.settleCheck_unsettled hd hall, if_neg fun h => hp h.1]
      unfold State.settling
      rw [if_neg hp]

/-- Settles O40: each input sets its level, and the settle timer is started, left or stopped by the levels. -/
theorem settleTimer : Obligations.SettleTimer := by
  intro s hd
  refine ⟨?good, ?pfailRise, ?resetRise, ?trip, ?pfail, ?reset⟩
  case good =>
    show execSupplyGood s = _
    simp [execSupplyGood, hd, State.startSettle, State.setSupply, Pins.allHold]
  case pfailRise => exact congrArg Host.Outcome.next (settleCheck_spent (s := s.setPfail true) hd)
  case resetRise =>
    have hreleased : (s.setReset true).resetReleased = s.setReset true := by
      unfold State.resetReleased
      simp [hd]
    show Host.Outcome.next (s.setReset true).resetReleased.settleCheck = _
    rw [hreleased]
    exact congrArg Host.Outcome.next (settleCheck_spent (s := s.setReset true) hd)
  case trip =>
    show execSupplyTrip s = _
    unfold execSupplyTrip
    rw [hd]
    exact congrArg Host.Outcome.next
      (MeterFamily.settleCheck_unsettled (s := s.setSupply false) hd (by simp [Pins.allHold]))
  case pfail =>
    show execPfailNAssertion s = _
    unfold execPfailNAssertion
    rw [hd]
    exact congrArg Host.Outcome.next
      (MeterFamily.settleCheck_unsettled (s := s.setPfail false) hd (by simp [Pins.allHold]))
  case reset =>
    show execResetNAssertion s = _
    unfold execResetNAssertion
    rw [hd]
    exact congrArg Host.Outcome.next
      (MeterFamily.settleCheck_unsettled (s := (s.setReset false).rememberReset) hd
        (by simp [Pins.allHold]))

end Sys2Proof.PowerFamily
end

section
/-! The end of programming a record (R150, R156): the slot and the store after it, the END record that it
leads to, and the entry into SPENT that ends the drain. -/

namespace Sys2Proof.PowerFamily

open Sys2Proof.Machine

/-! ### The program verified (R156) -/

/-- A program verified good: the slot is VALID, and the next slot moves one on. -/
theorem endProgram_good (j : Fin 64) (b : Block) (s : State) : s.endProgram j b b = { s with
    store := { s.store with
      slots := s.store.slots.set j b, table := s.store.table.set j .valid, op := .idle, next := j + 1 } } := by
  unfold State.endProgram
  simp

/-- A program verified failed: the slot is INVALID, the store unusable, and STORE_FAULT raised. -/
theorem endProgram_failed {b r : Block} (h : r ≠ b) (j : Fin 64) (s : State) :
    s.endProgram j b r = { s with
      store := { s.store with
        slots := s.store.slots.set j r, table := s.store.table.set j .invalid, op := .idle, usable := false }
      mgmt := s.mgmt.record ⟨.storeFault, none, none, none, none, .program j.val⟩ } := by
  unfold State.endProgram
  simp [h, State.raise]

theorem exec_programDone_begin {s : State} {j : Fin 64} {b : Block} (h : s.store.op = .programming j false b)
    (r : Block) : exec (.slotProgramDone r) s = .next (s.endProgram j b r).endAct := by
  show execSlotProgramDone r s = _
  unfold execSlotProgramDone
  simp only [h]
  rfl

theorem exec_programDone_end {s : State} {j : Fin 64} {b : Block} (h : s.store.op = .programming j true b)
    (r : Block) : exec (.slotProgramDone r) s = .next (s.endProgram j b r).endDrain := by
  show execSlotProgramDone r s = _
  unfold execSlotProgramDone
  simp only [h]
  rfl

theorem exec_programDone_other {s : State} (h : ∀ j x y, s.store.op ≠ .programming j x y) (r : Block) :
    exec (.slotProgramDone r) s = .next s := by
  show execSlotProgramDone r s = _
  unfold execSlotProgramDone
  split
  next hop => exact absurd hop (h _ _ _)
  all_goals rfl

/-! ### The end of a drain (R150) -/

/-- What a drain with a cause leaves of the management port at its end: RESTART is done with COMMAND_DONE. -/
def drainReported (s : State) : Mgmt :=
  if s.power.cause = .restart then
    { (s.mgmt.record ⟨.commandDone, none, none, none, none,
        .restartDone s.store.drainSeq s.engine.restoredTally s.engine.failedTally⟩) with restartOut := false }
  else s.mgmt

/-- An entry into SPENT does not depend on what is reported. -/
theorem inSpent_mgmt (m : Mgmt) (s : State) :
    ({ s with mgmt := m } : State).inSpent = { s.inSpent with mgmt := m } := by
  unfold State.inSpent State.settling
  dsimp only
  split <;> rfl

/-- An entry into SPENT leaves what a drain reports of itself. -/
theorem inSpent_report (s : State) : s.inSpent.mgmt = s.mgmt ∧ s.inSpent.store = s.store
    ∧ s.inSpent.engine = s.engine ∧ s.inSpent.wc = s.wc := by
  unfold State.inSpent State.settling
  split <;> exact ⟨rfl, rfl, rfl, rfl⟩

/-- A drain that ends with the meter RUNNING enters SPENT and reports. -/
theorem endDrain_running {s : State} {sv : Survey} (h : s.meter.mode = .running sv) :
    s.endDrain = State.inSpent { s with mgmt := drainReported s } := by
  obtain ⟨hmgmt, hstore, hengine, _⟩ := inSpent_report s
  rw [inSpent_mgmt (drainReported s)]
  unfold State.endDrain drainReported
  dsimp only
  rw [enterSpent_running h]
  by_cases hc : s.power.cause = .restart
  · simp [hc, State.raise, hmgmt, hstore, hengine]
  · simp [hc, ← hmgmt]

/-! ### The end of ROLLING_BACK (R149, R150) -/

/-- With nothing left to wait for, ROLLING_BACK is over (R149). -/
theorem rollingBackOver_idle {s : State} (he : s.engineFinished) (hp : s.port.nothingOutstanding)
    (hw : s.host.writeSlots = []) (hr : s.host.readSlots = []) (hop : s.store.op = .idle) :
    s.rollingBackOver = true := by
  obtain ⟨⟨hqueue, hlinger⟩, hpositions⟩ := he
  simp [State.rollingBackOver, Engine.finished, hqueue, hlinger, hpositions,
    HostFamily.outstanding_false hp, hw, hr, hop, StoreOp.isProgramming]

/-- In ROLLING_BACK with all work over, an unusable store refuses the END record, and the drain ends at
once (R150). -/
theorem endAct_unrecorded {s : State} {sv : Survey} (hd : s.power.device = .drain)
    (hp : s.power.phase = .rollingBack) (hn : s.noPassOwed) (ho : s.rollingBackOver = true)
    (hu : s.store.usable = false) (hm : s.meter.mode = .running sv) :
    s.endAct = State.inSpent { s with mgmt := drainReported s } := by
  have hsettling : s.testSettling = s := if_neg (by simp [hp])
  have hrecord : s.record = State.inSpent { s with mgmt := drainReported s } := by
    unfold State.record
    simp only [hu]
    exact endDrain_running (s := { s with power := { s.power with phase := .recording } }) hm
  have hrolling : s.testRollingBack = State.inSpent { s with mgmt := drainReported s } :=
    (if_pos ⟨hd, hp, ho⟩).trans hrecord
  unfold State.endAct
  rw [runPasses_quiet hn, hsettling, hrolling]
  obtain ⟨_, _, _, hwc⟩ := inSpent_report { s with mgmt := drainReported s }
  exact runPasses_quiet (by unfold State.noPassOwed; rw [hwc]; exact hn)

/-- Settles O42: the program's verification, and then what the act's end or the drain's end comes to. -/
theorem programDone : Obligations.ProgramDone := by
  refine fun s j b => ⟨fun x hop hd hp hn hx ha => ⟨?settlingGood, fun r hr => ?settlingFailed⟩,
    fun sv hop hd hp hn he hport hw hread hm => ⟨fun hu => ?workOverGood, fun r hr => ?workOverFailed⟩,
    fun sv hop hm => ⟨?recordedGood, fun r hr => ?recordedFailed⟩,
    fun hop => exec_programDone_other hop b⟩
  case settlingGood =>
    rw [exec_programDone_begin hop, endProgram_good]
    exact congrArg Host.Outcome.next (endAct_settling hn hp hx ha)
  case settlingFailed =>
    rw [exec_programDone_begin hop, endProgram_failed hr]
    exact congrArg Host.Outcome.next (endAct_settling hn hp hx ha)
  case workOverGood =>
    rw [exec_programDone_begin hop, endProgram_good]
    exact congrArg Host.Outcome.next
      (HostFamily.endAct_recording hd hp hn (rollingBackOver_idle he hport hw hread rfl) hu)
  case workOverFailed =>
    rw [exec_programDone_begin hop, endProgram_failed hr]
    exact congrArg Host.Outcome.next
      (endAct_unrecorded hd hp hn (rollingBackOver_idle he hport hw hread rfl) rfl hm)
  case recordedGood =>
    rw [exec_programDone_end hop, endProgram_good]
    exact congrArg Host.Outcome.next (endDrain_running hm)
  case recordedFailed =>
    rw [exec_programDone_end hop, endProgram_failed hr]
    exact congrArg Host.Outcome.next (endDrain_running hm)

end Sys2Proof.PowerFamily
end

section
/-! The end of a survey (R129, R130, R135, R136): what a publication sets, and the end of INIT that the first
survey's publication leads to (R133, R142, R143). -/

namespace Sys2Proof.PowerFamily

open Sys2Proof.Machine

/-! ### The publication (R129, R130, R135, R136) -/

theorem rawFails_eq (raw : Nat) : rawFails raw = decide (raw = 0 ∨ raw = 65535) := by
  simp [rawFails, maxReading, Bool.beq_eq_decide_eq]

theorem offsetFails_eq (x : Int) : offsetFails x = decide (x < -512 ∨ 512 < x) := by
  unfold offsetFails
  rw [decide_eq_decide]
  omega

/-- The shortfall evaluation sets the mark to the test, and raises SHORTFALL at the onset alone (R136). -/
theorem evalShortfall_eq (s : State) : s.evalShortfall = { s with
    meter := { s.meter with shortfall := decide (s.effectiveCeiling < s.entryCount) }
    mgmt := if s.effectiveCeiling < s.entryCount ∧ s.meter.shortfall = false then
        s.mgmt.record ⟨.shortfall, none, none, none, none, .shortfall s.entryCount s.effectiveCeiling⟩
      else s.mgmt } := by
  unfold State.evalShortfall
  by_cases hc : s.effectiveCeiling < s.entryCount
  · cases hs : s.meter.shortfall with
    | false =>
      simp only [hc, Bool.false_eq_true, decide_true, and_self, if_true, if_false]
      rfl
    | true =>
      have hmeter : ({ s.meter with shortfall := true } : Meter) = s.meter := by rw [← hs]
      simp [hc, hmeter]
  · simp [hc]

/-- What a publication leaves of the management port but for shortfall: METER_FAULT at a fault onset (R135). -/
def faultReported (m : Meter) (s : State) : Mgmt :=
  if m.faulted = true ∧ s.meter.faulted = false then
    s.mgmt.record ⟨.meterFault, none, none, none, none, .meterFault m.faultRaw m.faultOffset⟩
  else s.mgmt

/-- The state after a publication with nothing held: the meter's values of the survey, the mark of shortfall,
the events at the onsets, and the next survey begun (R127, R129, R130, R135, R136). -/
def published (sv : Survey) (raw : Nat) (s : State) : State :=
  let m := s.meter.publish sv raw
  let ceiling := min (min m.credit m.cap) 512
  let now := max s.now (sv.start + sv.period)
  { s with
    now := now
    meter := { m with
      shortfall := decide (ceiling < s.entryCount), mode := .running ⟨now, m.period, m.reserve, m.cost⟩ }
    mgmt := if ceiling < s.entryCount ∧ s.meter.shortfall = false then
        (faultReported m s).record ⟨.shortfall, none, none, none, none, .shortfall s.entryCount ceiling⟩
      else faultReported m s }

/-- A publication at the survey's due moment comes to `published`, and owes a pass. -/
theorem publish_eq (sv : Survey) (raw : Nat) (s : State) :
    (s.advanceTo (sv.start + sv.period)).publish sv raw = (published sv raw s).owePass := by
  have hraise : ∀ (m : Meter) (t : State),
      (if m.faulted && !t.meter.faulted then
        ({ t with meter := m } : State).raise
          ⟨.meterFault, none, none, none, none, .meterFault m.faultRaw m.faultOffset⟩
        else { t with meter := m }) = { t with meter := m, mgmt := faultReported m t } := by
    intro m t
    unfold faultReported
    by_cases hc : m.faulted = true ∧ t.meter.faulted = false
    · simp [hc, State.raise]
    · rw [if_neg hc, if_neg (by simpa using hc)]
  unfold State.publish
  dsimp only
  rw [hraise, evalShortfall_eq]
  rfl

/-- A survey in RUNNING ends with its publication, and goes on to the end of INIT where it is the first. -/
theorem exec_surveyEnd_running {s : State} {sv : Survey} (hq : s.quiet) (hw : s.wc.hold = [])
    (hm : s.meter.mode = .running sv) (raw : BitVec 16) :
    exec (.surveyEnd raw) s = .next (published sv raw.toNat s).afterPublication := by
  obtain ⟨hn, hd⟩ := hq
  have hwc : (⟨[], false⟩ : WriteCtl) = s.wc := by
    rw [← hw, ← show s.wc.passDue = false from hn]
  have hact : (published sv raw.toNat s).owePass.endAct = published sv raw.toNat s := by
    rw [endAct_nothingHeld (s := (published sv raw.toNat s).owePass) hw hd, hwc]
    rfl
  show execSurveyEnd raw s = _
  unfold execSurveyEnd
  simp only [hm]
  rw [publish_eq, hact]

/-! ### Steps 4 and 5 of INIT (R142, R143) -/

/-- Power control in SPENT with a cause, the settle timer stopped (R143). -/
def spentWith (c : DrainCause) (p : Power) : Power :=
  { p with device := .spent, initStep := none, cause := c, phase := .none, settleSince := none }

section Steps

variable {s : State} {sv : Survey} (hop : s.store.op = .idle) (hm : s.meter.mode = .running sv)
include hop hm

/-- INIT cut short with the store idle, the meter RUNNING and one of the three conditions failing. -/
theorem cutInit_metering (hp : s.pins.allHold = false) (c : DrainCause) :
    s.cutInit c = { s with power := spentWith c s.power } := by
  have hstore : ({ s.store with op := .idle } : Store) = s.store := by rw [← hop]
  have hmeter : ({ s.meter with mode := .running sv } : Meter) = s.meter := by rw [← hm]
  rw [MeterFamily.cutInit_unsettled (.inl hop) hp, hstore]
  simp only [hm]
  rw [hmeter]
  rfl

/-- A supply that is not reported good sends INIT to SPENT with cause POWER (R143). -/
theorem openOrSpend_bad (h : s.pins.supplyGood = false) :
    s.openOrSpend = { s with power := spentWith .power s.power } := by
  unfold State.openOrSpend
  rw [State.readSupply_of_bad h]
  exact (if_pos h).trans (cutInit_metering hop hm (by simp [Pins.allHold, h]) .power)

/-- A supply reported good may have sagged, which sends INIT to SPENT; else PFAIL_N decides (R143, LOG 30). -/
theorem openOrSpend_good (h : s.pins.supplyGood = true) :
    s.openOrSpend = if Config.supplySagged s.freeCount then { s with
        pins := { s.pins with supplyGood := false }
        freeCount := s.freeCount + 1
        power := spentWith .power s.power }
      else if s.pins.pfailHigh = false then { s with
        freeCount := s.freeCount + 1
        power := spentWith .pfail s.power }
      else ({ s with
        power := { s.power with device := .ready, initStep := none }
        freeCount := s.freeCount + 1 } : State).acceptWaiting := by
  have hread : s.readSupply = { s with
      pins := { s.pins with supplyGood := !Config.supplySagged s.freeCount }
      freeCount := s.freeCount + 1 } := if_pos h
  have hpins : ({ s.pins with supplyGood := true } : Pins) = s.pins := by rw [← h]
  unfold State.openOrSpend
  rw [hread]
  cases Config.supplySagged s.freeCount with
  | true =>
    exact cutInit_metering (s := { s with
      pins := { s.pins with supplyGood := false }, freeCount := s.freeCount + 1 }) hop hm rfl .power
  | false =>
    simp only [Bool.not_false, hpins, Bool.true_eq_false, Bool.false_eq_true, if_false]
    split
    next hp =>
      exact cutInit_metering (s := { s with freeCount := s.freeCount + 1 }) hop hm
        (by simp [Pins.allHold, hp]) .pfail
    next => rfl

end Steps

theorem afterPublication_other {s : State}
    (h : ¬ (s.power.device = .init ∧ s.power.initStep = some .firstSurvey)) : s.afterPublication = s :=
  if_neg h

theorem afterPublication_first {s : State} (hd : s.power.device = .init)
    (hi : s.power.initStep = some .firstSurvey) : s.afterPublication = s.finishInit := if_pos ⟨hd, hi⟩

/-- Settles O33: the publication's values in the statement's words, and the end of INIT by the supply and
PFAIL_N. -/
theorem surveyEndPublishes : Obligations.SurveyEndPublishes := by
  intro s raw sv hq hw hm store faultRaw faultOffset credit short now meter faulted after
  have hafter : published sv raw.toNat s = after := by
    simp only [published, faultReported, Meter.publish, Meter.faulted, rawFails_eq, offsetFails_eq,
      Bool.or_eq_true, Bool.or_eq_false_iff, decide_eq_true_eq]
    rfl
  have hexec := exec_surveyEnd_running hq hw hm raw
  rw [hafter] at hexec
  refine ⟨fun hnot => ?running, fun hd hi hop => ?first⟩
  case running => exact hexec.trans (congrArg _ (afterPublication_other hnot))
  case first =>
    intro done announced spent sagged
    have hlast : exec (.surveyEnd raw) s = .next announced.openOrSpend :=
      hexec.trans (congrArg _ (afterPublication_first (s := after) hd hi))
    rw [hlast]
    refine ⟨fun hgood hpfail hbus => congrArg _ ?opens, fun hbad => congrArg _ ?bad,
      fun hgood hpfail => congrArg _ ?pfail⟩
    case opens =>
      refine (openOrSpend_good (s := announced) hop rfl hgood).trans (if_congr Iff.rfl rfl ?_)
      exact (if_neg (by simp [announced, after, hpfail])).trans (acceptWaiting_empty hbus)
    case bad => exact openOrSpend_bad (s := announced) hop rfl hbad
    case pfail =>
      exact (openOrSpend_good (s := announced) hop rfl hgood).trans (if_congr Iff.rfl rfl (if_pos hpfail))

end Sys2Proof.PowerFamily
end

section
/-! The commands of the management port by themselves: which of them a device state takes (Table 10-3), the
event queue and its flags (R173, R175), and the alert mask (R174). -/

namespace Sys2Proof.ManagementFamily

open Sys2Proof.Machine Sys2Proof.HostFamily Sys2Proof.PortFamily

/-! ### Management commands (R165, R167) -/

/-- A management command means its own valid frame (LOG 6). -/
theorem exec_management {c : Instr} (hc : c.isManagement = true) (s : State) :
    exec c s = .next (s.byFrame c) := by
  cases c with
  | status | streamInfo | streamSet | regionInfo | regionSet | sourceMapInfo | sourceMapSet | abort
  | resumeRetry | resumeDiscard | failedList | entryImage | meterSet | calibrate | timeoutSet | outcome
  | eventNext | flagsClear | alertMaskSet | restart => rfl
  | _ => cases hc

/-- With the link open a management command is executed at once. -/
theorem exec_management_open {c : Instr} (hc : c.isManagement = true) {s : State} (h : s.linkOpen) :
    exec c s = .next (s.runCommand c) :=
  (exec_management hc s).trans (congrArg Host.Outcome.next (byFrame_open h c))

theorem isManagement_of_isSetting {c : Instr} (h : c.isSetting = true) : c.isManagement = true := by
  cases c with
  | streamSet | regionSet | sourceMapSet | meterSet | timeoutSet | abort => rfl
  | _ => cases h

theorem isManagement_of_isReadyOnly {c : Instr} (h : c.isReadyOnly = true) : c.isManagement = true := by
  cases c with
  | resumeRetry | resumeDiscard | calibrate | restart => rfl
  | _ => cases h

/-! ### Commands not taken (R167 step 7, R169) -/

/-- DRAIN and SPENT judge no value of a setting command: the device state comes first. -/
theorem runCommand_setting_closed {c : Instr} (hc : c.isSetting = true) {s : State}
    (h : s.power.device = .drain ∨ s.power.device = .spent) : s.runCommand c = s.respond .notNow [] := by
  have hclosed := takesSettings_closed h
  cases c with
  | streamSet | regionSet | sourceMapSet | meterSet | timeoutSet | abort =>
    simp only [State.runCommand, State.streamSetCmd, State.regionSetCmd, State.sourceMapSetCmd,
      State.meterSetCmd, State.timeoutSetCmd, State.abortCmd, judged_notTaken hclosed]
  | _ => cases hc

theorem isReady_eq_false {s : State} (h : s.power.device ≠ .ready) : s.isReady = false :=
  beq_eq_false_iff_ne.mpr h

/-- Outside READY no value of a command taken in READY alone is judged. -/
theorem runCommand_readyOnly_notReady {c : Instr} (hc : c.isReadyOnly = true) {s : State}
    (h : s.power.device ≠ .ready) : s.runCommand c = s.respond .notNow [] := by
  have hnot := isReady_eq_false h
  cases c with
  | resumeRetry | resumeDiscard | calibrate | restart =>
    simp only [State.runCommand, State.resumeRetryCmd, State.resumeDiscardCmd, State.calibrateCmd,
      State.restartCmd, judged_notTaken hnot]
  | _ => cases hc

/-- Settles O60: each group of commands is judged by the device state before its values, and in OFF no
frame is received. -/
theorem commandsNotTaken : Obligations.CommandsNotTaken := by
  refine fun s c => ⟨fun hc hidle hdev => ?setting, fun hc hlink hdev => ?readyOnly,
    fun hc hoff => ?off⟩
  case setting =>
    have hon : s.power.device ≠ .off := by rcases hdev with h | h <;> simp [h]
    rw [exec_management_open (isManagement_of_isSetting hc) ⟨hon, hidle⟩,
      runCommand_setting_closed hc hdev]
  case readyOnly =>
    rw [exec_management_open (isManagement_of_isReadyOnly hc) hlink, runCommand_readyOnly_notReady hc hdev]
  case off => rw [exec_management hc, byFrame_off hoff]

/-! ### The event queue (R175) -/

theorem record_of_room {m : Mgmt} (h : m.events.length < 16) (e : EventRec) :
    m.record e = { m with flags := m.flags ||| e.kind.flag, events := m.events ++ [e] } := if_pos h

theorem record_of_full {m : Mgmt} (h : ¬ m.events.length < 16) (e : EventRec) :
    m.record e = { m with flags := m.flags ||| e.kind.flag ||| droppedFlag } := if_neg h

theorem exec_eventNext {s : State} (h : s.linkOpen) : exec .eventNext s = .next s.eventNextCmd :=
  exec_management_open rfl h

theorem eventNextCmd_empty {s : State} (h : s.mgmt.events = []) : s.eventNextCmd = s.respond .empty [] := by
  unfold State.eventNextCmd
  rw [h]

theorem eventNextCmd_oldest {s : State} {e : EventRec} {rest : List EventRec}
    (h : s.mgmt.events = e :: rest) : s.eventNextCmd = { s with mgmt := { s.mgmt with
      events := rest, response := some ⟨.ok, BitVec.ofNat 8 rest.length :: e.bytes⟩ } } := by
  unfold State.eventNextCmd
  rw [h]
  rfl

/-- Settles O57: the record's fate by the queue's room, and EVENT_NEXT by whether a record is held. -/
theorem eventQueueRecords : Obligations.EventQueueRecords := by
  refine ⟨fun m e => ⟨fun h => record_of_room h e, fun h => record_of_full (by omega) e⟩,
    fun s hlink => ⟨fun e rest h => ?oldest, fun h => ?empty⟩⟩
  case oldest => rw [exec_eventNext hlink, eventNextCmd_oldest h]
  case empty => rw [exec_eventNext hlink, eventNextCmd_empty h]

/-! ### Event flags (R173) -/

/-- An event adds its own flag to those set, and EVENTS_DROPPED where the queue has no room. -/
theorem record_flags (m : Mgmt) (e : EventRec) : (m.record e).flags
    = m.flags ||| e.kind.flag ||| (if m.events.length < 16 then 0#16 else droppedFlag) := by
  by_cases h : m.events.length < 16
  · rw [record_of_room h, if_pos h, BitVec.or_zero]
  · rw [record_of_full h, if_neg h]

/-- The flags that others are added to stay set. -/
theorem or_and_left (a b : BitVec 16) : (a ||| b) &&& a = a := by
  ext i hi
  simp only [BitVec.getElem_and, BitVec.getElem_or]
  cases a[i] <;> simp

theorem or_and_middle (a b c : BitVec 16) : (a ||| b ||| c) &&& b = b := by
  rw [BitVec.or_comm a b, BitVec.or_assoc, or_and_left]

/-- Reading the queue clears no flag. -/
theorem eventNextCmd_flags (s : State) : s.eventNextCmd.mgmt.flags = s.mgmt.flags := by
  cases h : s.mgmt.events with
  | nil => rw [eventNextCmd_empty h]; rfl
  | cons e rest => rw [eventNextCmd_oldest h]

/-- Settles O58: the flags after an event are those before it with some added, none of an unused position. -/
theorem eventFlags : Obligations.EventFlags := by
  refine ⟨fun m e => ?raised, rfl, fun s hlink =>
    ⟨fun mask => exec_management_open rfl hlink, _, exec_eventNext hlink, eventNextCmd_flags s⟩⟩
  case raised =>
    have hunused : (0xF800#16 : BitVec 16) = ~~~usedFlags := by decide
    have hdropped : (if m.events.length < 16 then 0#16 else droppedFlag) &&& ~~~usedFlags = 0#16 := by
      split <;> decide
    rw [record_flags, hunused]
    refine ⟨or_and_middle _ _ _, ?kept, fun h => or_unused (or_unused h (flag_unused e.kind)) hdropped⟩
    rw [BitVec.or_assoc]
    exact or_and_left _ _

/-! ### The alert mask (R174) -/

theorem alertN_off {s : State} (h : s.power.device = .off) : s.alertN = .notDriven := if_pos h

theorem alertN_driven {s : State} (h : s.power.device ≠ .off) :
    s.alertN = if s.mgmt.flags &&& s.mgmt.mask = 0#16 then .high else .low := if_neg h

/-- Settles O59: the command stores the used positions, and the output is a function of the state. -/
theorem alertMask : Obligations.AlertMask := by
  refine ⟨fun s mask hlink => exec_management_open rfl hlink, fun s => ⟨alertN_off, fun hon hset => ?low,
    fun hon hclear => ?high⟩⟩
  case low => rw [alertN_driven hon, if_neg hset]
  case high => rw [alertN_driven hon, if_pos hclear]

end Sys2Proof.ManagementFamily
end

section
/-! Read frames of the management link with the bytes they find on MDAT, and a stuck link (R164, R165, R166,
R168). -/

namespace Sys2Proof.ManagementFamily

open Sys2Proof.Machine

/-- R164: the seven bits of the address byte above its direction bit are the part's address. -/
theorem isAddressed_iff {a : Byte} {m : Mgmt} :
    m.isAddressed a = true ↔ a.extractLsb' 1 7 = m.address := beq_iff_eq

/-! ### Read frames (R164, R165, R168) -/

/-- A controller that acknowledges every byte takes all it clocks. -/
theorem sentCount_acknowledged {acks : List Bool} (h : ∀ x ∈ acks, x = true) :
    sentCount acks = acks.length := by
  have hall : acks.takeWhile (·) = acks := List.takeWhile_eq_self_iff.mpr h
  unfold sentCount
  rw [hall]
  omega

/-- The first byte refused is the last one sent. -/
theorem sentCount_refused {before : List Bool} (after : List Bool) (h : ∀ x ∈ before, x = true) :
    sentCount (before ++ false :: after) = before.length + 1 := by
  have hbefore : (before ++ false :: after).takeWhile (·) = before := by
    rw [List.takeWhile_append_of_pos h, List.takeWhile_cons_of_neg Bool.false_ne_true, List.append_nil]
  unfold sentCount
  rw [hbefore, List.length_append, List.length_cons]
  omega

/-- A read of which every byte is acknowledged finds the whole frame on MDAT, and then FFh. -/
theorem driven_acknowledged {acks : List Bool} (h : ∀ x ∈ acks, x = true) (frame : List Byte) :
    driven frame acks
      = frame.take acks.length ++ List.replicate (acks.length - frame.length) 0xFF#8 := by
  have hrest : acks.length - min acks.length frame.length = acks.length - frame.length := by omega
  unfold driven
  rw [sentCount_acknowledged h]
  dsimp only
  rw [List.length_take, hrest]

theorem exec_readFrame_addressed {s : State} {a : Byte} (hlink : s.linkOpen)
    (ha : a.extractLsb' 1 7 = s.mgmt.address) (hr : a.getLsbD 0 = true) (acks : List Bool) (ended : Bool) :
    exec (.readFrame a acks ended) s = .next (s.sendResponse a acks ended) := by
  show execReadFrame a acks ended s = _
  unfold execReadFrame State.readFrame
  rw [if_neg hlink.1, endFrame_idle hlink.2, if_pos hr, if_pos (isAddressed_iff.mpr ha)]

theorem exec_readFrame_other {s : State} {a : Byte} (hlink : s.linkOpen)
    (ha : a.extractLsb' 1 7 ≠ s.mgmt.address) (hr : a.getLsbD 0 = true) (acks : List Bool) (ended : Bool) :
    exec (.readFrame a acks ended) s = .next (s.ignoreFrame 0) := by
  show execReadFrame a acks ended s = _
  unfold execReadFrame State.readFrame
  rw [if_neg hlink.1, endFrame_idle hlink.2, if_pos hr, if_neg (mt isAddressed_iff.mp ha)]

/-- Settles O44: a read's outcome by how many bytes of the frame the controller takes. -/
theorem readFrameAndStuckLink : Obligations.ReadFrameAndStuckLink := by
  refine ⟨fun s => rfl, fun s a acks ended => ⟨fun hlink ha hr => ⟨fun hall => ?acknowledged, ?refused⟩,
    fun hlink ha hr => exec_readFrame_other hlink ha hr acks ended, fun hoff => if_pos hoff⟩⟩
  case acknowledged =>
    rw [exec_readFrame_addressed hlink ha hr]
    unfold State.sendResponse
    dsimp only
    rw [driven_acknowledged hall, sentCount_acknowledged hall]
    rfl
  case refused =>
    rintro before after rfl hbefore
    rw [exec_readFrame_addressed hlink ha hr]
    unfold State.sendResponse driven
    dsimp only
    rw [sentCount_refused after hbefore]
    rfl

end Sys2Proof.ManagementFamily
end

section
/-! Request frames of the management link (R164, R165, R167): the bytes acknowledged and collected, the tests
in their order, and a frame past them as its command. -/

namespace Sys2Proof.ManagementFamily

open Sys2Proof.Machine Sys2Proof.HostFamily Sys2Proof.PortFamily

/-! ### The bytes of a request frame (R164, R165) -/

/-- Each byte of a frame of at most 43 is acknowledged, and so is the address byte. -/
theorem byteAcks_short {n : Nat} (h : n ≤ 43) : true :: byteAcks n = List.replicate (n + 1) true := by
  have hmin : min n maxFrameBytes = n := Nat.min_eq_left h
  have hover : n - maxFrameBytes = 0 := Nat.sub_eq_zero_of_le h
  unfold byteAcks
  rw [hmin, hover, List.replicate_zero, List.append_nil]
  rfl

/-- The bytes beyond the 43rd are refused. -/
theorem byteAcks_long (k : Nat) :
    true :: byteAcks (43 + k) = List.replicate 44 true ++ List.replicate k false := by
  have hmin : min (43 + k) maxFrameBytes = 43 := Nat.min_eq_right (Nat.le_add_right _ _)
  have hover : 43 + k - maxFrameBytes = k := Nat.add_sub_cancel_left 43 k
  unfold byteAcks
  rw [hmin, hover]
  rfl

/-- A frame of at most 43 bytes is collected whole. -/
theorem takeRequest_short {bytes : List Byte} (h : bytes.length ≤ 43) (a : Byte) (ended : Bool) (s : State) :
    s.takeRequest a bytes ended =
      if ended then (s.acknowledge (List.replicate (bytes.length + 1) true)).judgeFrame a bytes false
      else (s.acknowledge (List.replicate (bytes.length + 1) true)).setReceiver (.receiving a bytes false) := by
  have hcollected : collected bytes = bytes := List.take_of_length_le h
  have hlong : overLong bytes = false := decide_eq_false (Nat.not_lt.mpr h)
  unfold State.takeRequest
  rw [byteAcks_short h, hcollected, hlong]

/-- Of a longer frame the first 43 bytes are collected, and it is marked. -/
theorem takeRequest_long {bytes more : List Byte} (h : bytes.length = 43) (hm : more ≠ []) (a : Byte)
    (ended : Bool) (s : State) : s.takeRequest a (bytes ++ more) ended =
      let heard := s.acknowledge (List.replicate 44 true ++ List.replicate more.length false)
      if ended then heard.judgeFrame a bytes true else heard.setReceiver (.receiving a bytes true) := by
  have hcollected : collected (bytes ++ more) = bytes := List.take_left' h
  have hlong : overLong (bytes ++ more) = true := by
    have := List.length_pos_iff.mpr hm
    simp [overLong, maxFrameBytes, h, this]
  unfold State.takeRequest
  rw [hcollected, hlong, List.length_append, h, byteAcks_long]

theorem exec_requestFrame_addressed {s : State} {a : Byte} (hlink : s.linkOpen) (hw : a.getLsbD 0 = false)
    (ha : a.extractLsb' 1 7 = s.mgmt.address) (bytes : List Byte) (ended : Bool) :
    exec (.requestFrame a bytes ended) s = .next (s.takeRequest a bytes ended) := by
  show execRequestFrame a bytes ended s = _
  unfold execRequestFrame State.requestFrame
  rw [if_neg hlink.1, endFrame_idle hlink.2, if_pos (beq_iff_eq.mpr hw), if_pos (isAddressed_iff.mpr ha)]

theorem exec_requestFrame_other {s : State} {a : Byte} (hlink : s.linkOpen) (hw : a.getLsbD 0 = false)
    (ha : a.extractLsb' 1 7 ≠ s.mgmt.address) (bytes : List Byte) (ended : Bool) :
    exec (.requestFrame a bytes ended) s = .next (s.ignoreFrame bytes.length) := by
  show execRequestFrame a bytes ended s = _
  unfold execRequestFrame State.requestFrame
  rw [if_neg hlink.1, endFrame_idle hlink.2, if_pos (beq_iff_eq.mpr hw), if_neg (mt isAddressed_iff.mp ha)]

/-- A frame of at most 43 bytes that has ended has each byte acknowledged, and is judged. -/
theorem exec_requestFrame_judged {s : State} {a : Byte} (hlink : s.linkOpen) (hw : a.getLsbD 0 = false)
    (ha : a.extractLsb' 1 7 = s.mgmt.address) {bytes : List Byte} (h : bytes.length ≤ 43) :
    exec (.requestFrame a bytes true) s
      = .next ((s.acknowledge (List.replicate (bytes.length + 1) true)).judgeFrame a bytes false) :=
  (exec_requestFrame_addressed hlink hw ha bytes true).trans
    (congrArg Host.Outcome.next (takeRequest_short h a true s))

/-! ### The tests of a request frame in their order (R167) -/

/-- Test 3 on a frame of three bytes or more: the last one is the check of those before it. -/
theorem judgeBytes_rest {rest : List Byte} (h : rest ≠ []) (a code len : Byte) (long : Bool) :
    judgeBytes a (code :: len :: rest) long =
      if rest.getLast? = some (crc8 (a :: code :: len :: rest.dropLast)) then
        judgeParts long code len rest.dropLast
      else .bad .badCheck := by
  cases rest with
  | nil => exact absurd rfl h
  | cons => rfl

theorem length_parts (code len check : Byte) (pay : List Byte) :
    ([code, len] ++ pay ++ [check]).length = pay.length + 3 := by simp

/-- A frame with its check is judged by its parts where the check is good. -/
theorem judgeBytes_parts (a code len check : Byte) (pay : List Byte) (long : Bool) :
    judgeBytes a ([code, len] ++ pay ++ [check]) long
      = if check = crc8 ([a, code, len] ++ pay) then judgeParts long code len pay else .bad .badCheck := by
  have hne : pay ++ [check] ≠ [] := List.append_ne_nil_of_right_ne_nil _ (List.cons_ne_nil _ _)
  refine (judgeBytes_rest hne a code len long).trans ?_
  rw [List.getLast?_concat, List.dropLast_concat]
  exact if_congr Option.some_inj rfl rfl

theorem judgeFrame_short {bytes : List Byte} (h : bytes.length = 1 ∨ bytes.length = 2) (a : Byte)
    (long : Bool) (s : State) : s.judgeFrame a bytes long = s.respond .badLength [] := by
  rcases h with h | h
  · obtain ⟨x, rfl⟩ := List.length_eq_one_iff.mp h
    rfl
  · obtain ⟨x, y, rfl⟩ := List.length_eq_two.mp h
    rfl

/-- Test 4 on an over-long frame. -/
theorem judgeParts_overLong (code len : Byte) (pay : List Byte) :
    judgeParts true code len pay = .bad .badLength := rfl

/-- Test 4 on the length byte. -/
theorem judgeParts_lengthByte {len : Byte} {pay : List Byte} (h : len.toNat ≠ pay.length) (code : Byte) :
    judgeParts false code len pay = .bad .badLength := by
  unfold judgeParts
  rw [if_pos (by simp [h.symm])]

/-- A length byte that names the payload's length passes test 4, and tests 5 and 6 judge the code. -/
theorem judgeParts_fitting {len : Byte} {pay : List Byte} (hlen : len.toNat = pay.length)
    (hmax : pay.length ≤ 40) (code : Byte) : judgeParts false code len pay =
      (payloadLength code).elim (.bad .badCommand) fun k =>
        if pay.length = k then (frameCommand code pay).elim (.bad .badLength) .execute
        else .bad .badLength := by
  unfold judgeParts
  rw [if_neg (by simp [hlen]; omega)]
  cases payloadLength code with
  | none => rfl
  | some k => cases frameCommand code pay <;> simp [hlen]

/-- The longest payload of a command is REGION_SET's (Table 11-2). -/
theorem payloadLength_le {code : Byte} {k : Nat} (h : payloadLength code = some k) : k ≤ 11 := by
  unfold payloadLength at h
  split at h <;> cases h <;> decide

/-- An over-long frame whose last collected byte is a good check passes test 3 and fails test 4. -/
theorem judgeFrame_overLong {a : Byte} {bytes : List Byte} (h : bytes.length = 43)
    (hcheck : bytes.getLast? = some (crc8 (a :: bytes.dropLast))) (s : State) :
    s.judgeFrame a bytes true = s.respond .badLength [] := by
  obtain ⟨front, check, rfl⟩ := (List.eq_nil_or_concat bytes).resolve_left (by rintro rfl; cases h)
  rw [List.concat_eq_append] at h hcheck ⊢
  rw [List.getLast?_concat, List.dropLast_concat, Option.some_inj] at hcheck
  match front, h with
  | code :: len :: pay, _ =>
    have hparts := (judgeBytes_parts a code len check pay true).trans (if_pos hcheck)
    unfold State.judgeFrame
    rw [show code :: len :: pay ++ [check] = [code, len] ++ pay ++ [check] from rfl, hparts,
      judgeParts_overLong]

theorem judgeFrame_badCheck {a code len check : Byte} {pay : List Byte}
    (h : check ≠ crc8 ([a, code, len] ++ pay)) (s : State) :
    s.judgeFrame a ([code, len] ++ pay ++ [check]) false = s.respond .badCheck [] := by
  unfold State.judgeFrame
  rw [judgeBytes_parts, if_neg h]

/-- The frame of a code, a length byte and a payload with its good check. -/
def goodFrame (a code len : Byte) (pay : List Byte) : List Byte :=
  [code, len] ++ pay ++ [crc8 ([a, code, len] ++ pay)]

theorem length_goodFrame (a code len : Byte) (pay : List Byte) :
    (goodFrame a code len pay).length = pay.length + 3 := length_parts code len _ pay

theorem judgeBytes_goodFrame (a code len : Byte) (pay : List Byte) :
    judgeBytes a (goodFrame a code len pay) false = judgeParts false code len pay :=
  (judgeBytes_parts a code len _ pay false).trans (if_pos rfl)

theorem judgeFrame_lengthByte {len : Byte} {pay : List Byte} (h : len.toNat ≠ pay.length) (a code : Byte)
    (s : State) : s.judgeFrame a (goodFrame a code len pay) false = s.respond .badLength [] := by
  unfold State.judgeFrame
  rw [judgeBytes_goodFrame, judgeParts_lengthByte h]

section Fitting

variable {len : Byte} {pay : List Byte} (hlen : len.toNat = pay.length) (hmax : pay.length ≤ 40)
include hlen hmax

theorem judgeFrame_unknownCode {code : Byte} (h : payloadLength code = none) (a : Byte) (s : State) :
    s.judgeFrame a (goodFrame a code len pay) false = s.respond .badCommand [] := by
  unfold State.judgeFrame
  rw [judgeBytes_goodFrame, judgeParts_fitting hlen hmax, h]
  rfl

theorem judgeFrame_wrongLength {code : Byte} {k : Nat} (h : payloadLength code = some k)
    (hk : pay.length ≠ k) (a : Byte) (s : State) :
    s.judgeFrame a (goodFrame a code len pay) false = s.respond .badLength [] := by
  unfold State.judgeFrame
  rw [judgeBytes_goodFrame, judgeParts_fitting hlen hmax, h, Option.elim_some, if_neg hk]

end Fitting

/-- A frame that passes the tests is executed. -/
theorem judgeFrame_command {code len : Byte} {pay : List Byte} {c : FrameCommand}
    (hk : payloadLength code = some pay.length) (hlen : len.toNat = pay.length)
    (hc : frameCommand code pay = some c) (a : Byte) (s : State) :
    s.judgeFrame a (goodFrame a code len pay) false = s.runFrame c := by
  have hmax : pay.length ≤ 40 := (payloadLength_le hk).trans (by decide)
  unfold State.judgeFrame
  rw [judgeBytes_goodFrame, judgeParts_fitting hlen hmax, hk, Option.elim_some, if_pos rfl, hc]
  rfl

/-- Settles O45: the bytes acknowledged by the frame's length, and then the tests in their order. -/
theorem requestFrameTests : Obligations.RequestFrameTests := by
  intro s a hlink hw heard all
  refine ⟨fun ha bytes ended => exec_requestFrame_other hlink hw ha bytes ended, fun ha =>
    ⟨exec_requestFrame_judged hlink hw ha (Nat.zero_le 43), fun bytes h => ?collects,
      fun bytes more h hm => ?collectsLong, fun bytes h => ?short, fun code len check pay h hcheck => ?badCheck,
      fun code len pay h => ?goodCheck, fun bytes more h hm hcheck => ?overLong⟩⟩
  case collects =>
    rw [exec_requestFrame_addressed hlink hw ha, takeRequest_short h]
    rfl
  case collectsLong =>
    rw [exec_requestFrame_addressed hlink hw ha, takeRequest_long h hm]
    rfl
  case short =>
    rw [exec_requestFrame_judged hlink hw ha (by omega), judgeFrame_short h]
    rfl
  case badCheck =>
    have hlength := length_parts code len check pay
    rw [exec_requestFrame_judged hlink hw ha (by omega), judgeFrame_badCheck hcheck, hlength]
    rfl
  case goodCheck =>
    have hjudged : exec (.requestFrame a (goodFrame a code len pay) true) s
        = .next ((all (pay.length + 3)).judgeFrame a (goodFrame a code len pay) false) := by
      have hlength := length_goodFrame a code len pay
      rw [exec_requestFrame_judged hlink hw ha (by omega), hlength]
      rfl
    refine ⟨fun hlen => hjudged.trans ?_, fun hlen hcode => hjudged.trans ?_,
      fun k hlen hcode hk => hjudged.trans ?_⟩
    · rw [judgeFrame_lengthByte hlen]
    · rw [judgeFrame_unknownCode hlen h hcode]
    · rw [judgeFrame_wrongLength hlen h hcode (hlen ▸ hk)]
  case overLong =>
    rw [exec_requestFrame_addressed hlink hw ha, takeRequest_long h hm]
    exact congrArg Host.Outcome.next (judgeFrame_overLong h hcheck _)

/-! ### A frame as its command (R167 steps 7 to 9) -/

/-- Every command of Table 11-2 is a management command: its code tells its payload's length, and with it
the payload's bytes. -/
theorem isManagement_of_frameCommand {code : Byte} {pay : List Byte} {c : Instr}
    (hk : payloadLength code = some pay.length) (h : frameCommand code pay = some (.command c)) :
    c.isManagement = true := by
  unfold payloadLength at hk
  unfold frameCommand at h
  split at hk
  case h_20 => cases hk
  all_goals rename_i hcode; rw [hcode] at h
  case h_6 | h_13 | h_16 | h_19 =>
    match pay, hk with
    | [], _ => cases h; rfl
  case h_1 | h_2 | h_4 | h_8 | h_14 | h_15 =>
    match pay, hk with
    | [_], _ => cases h; rfl
  case h_7 | h_17 | h_18 =>
    match pay, hk with
    | [_, _], _ => cases h; rfl
  case h_9 =>
    match pay, hk with
    | [_, mode], _ =>
      change (if mode = 0#8 then _ else if mode = 1#8 then _ else _) = _ at h
      split_ifs at h <;> cases h <;> rfl
  case h_10 | h_11 =>
    match pay, hk with
    | [_, _, _], _ => cases h; rfl
  case h_3 | h_12 =>
    match pay, hk with
    | [_, _, _, _, _, _, _, _], _ => cases h; rfl
  case h_5 =>
    match pay, hk with
    | [_, _, _, _, _, _, _, _, _, _, _], _ => cases h; rfl

/-- An ended frame that passes the tests has each byte acknowledged, and runs as its command. -/
theorem exec_goodFrame {s : State} {a : Byte} (hlink : s.linkOpen) (hw : a.getLsbD 0 = false)
    (ha : a.extractLsb' 1 7 = s.mgmt.address) {code len : Byte} {pay : List Byte} {c : FrameCommand}
    (hk : payloadLength code = some pay.length) (hlen : len.toNat = pay.length)
    (hc : frameCommand code pay = some c) : exec (.requestFrame a (goodFrame a code len pay) true) s
      = .next ((s.acknowledge (List.replicate (pay.length + 4) true)).runFrame c) := by
  have hlength := length_goodFrame a code len pay
  have hmax := payloadLength_le hk
  rw [exec_requestFrame_judged hlink hw ha (by omega), judgeFrame_command hk hlen hc, hlength]

theorem runFrame_resumeBadMode (n : Byte) (s : State) : s.runFrame (.resumeBadMode n)
    = s.respond (if s.power.device = .ready then .badValue else .notNow) [] := by
  by_cases h : s.power.device = .ready
  · rw [if_pos h]
    exact judged_none (α := Unit) (beq_iff_eq.mpr h) (fun _ s => s) s
  · rw [if_neg h]
    exact judged_notTaken (α := Unit) (isReady_eq_false h) none (fun _ s => s) s

theorem frameCommand_resumeBadMode {mode : Byte} (h0 : mode ≠ 0#8) (h1 : mode ≠ 1#8) (n : Byte) :
    frameCommand 0x09#8 [n, mode] = some (.resumeBadMode n) :=
  (if_neg h0).trans (if_neg h1)

/-- Settles O46: a frame past its tests runs as its command does with the link open. -/
theorem frameActsAsCommand : Obligations.FrameActsAsCommand := by
  intro s a hlink hw ha
  refine ⟨fun code len pay c hk hlen hc => ?command, fun n mode h0 h1 => ?badMode, fun h l => ?flagsClear⟩
  case command =>
    exact (exec_goodFrame hlink hw ha hk hlen hc).trans
      (exec_management_open (isManagement_of_frameCommand hk hc)
        (s := s.acknowledge (List.replicate (pay.length + 4) true)) hlink).symm
  case badMode =>
    exact (exec_goodFrame hlink hw ha (pay := [n, mode]) rfl rfl
      (frameCommand_resumeBadMode h0 h1 n)).trans (congrArg Host.Outcome.next (runFrame_resumeBadMode n _))
  case flagsClear =>
    exact exec_goodFrame hlink hw ha (code := 0x11#8) (len := 0x02#8) (pay := [h, l]) rfl rfl rfl

end Sys2Proof.ManagementFamily
end

section
/-! The step by what the queue holds (LOG 2, LOG 24): the command at its front, or an idle millisecond. -/

namespace Sys2Proof.Machine

/-- The step reads the queue alone to choose: the front command acts on the state with the rest queued. -/
theorem step_of_pending_cons {s : State} {c : Instr} {rest : List Instr} (h : s.pending = c :: rest) :
    step s = exec c { s with pending := rest } := by
  unfold step
  rw [h]

theorem step_of_pending_nil {s : State} (h : s.pending = []) : step s = .next s.idle := by
  unfold step
  rw [h]

/-- Settles O1: the queue is empty or has a front, and the idle state is the same with the clock one on. -/
theorem stepTakesFrontCommand : Obligations.StepTakesFrontCommand := by
  refine ⟨fun c rest s => ?front, fun s h => ?idle⟩
  case front => exact step_of_pending_cons (s := { s with pending := c :: rest }) rfl
  case idle => exact step_of_pending_nil h

end Sys2Proof.Machine
end
